-- ==== Sys2Proof/Word.lean ====
section
/-! DEFINITION. The units of the control link: a byte and the 16-bit frame check. Everything else the manual counts,
indexes or times is a plain number. -/

namespace Sys2Proof

/-- One character of the line, and one byte of a frame (R169, R182). -/
abbrev Byte := BitVec 8

/-- The cyclic check of a frame (R170). -/
abbrev Check := BitVec 16

end Sys2Proof
end

