-- ==== Sys2Proof/Syntax.lean ====
section
/-! DEFINITION. The commands of the part: one constructor per row of spec/opcode_table.json.

A request row is the request engine taking the OLDEST frame of the request queue, of the row's kind, and serving it (R172); its
operands are that frame's request number and body, byte for byte as R182 lays the body out. The other rows are events of the
lines, the pins and the timers. -/

namespace Sys2Proof

inductive Instr where
  /-- SET_PREFIX (R3), kind 0x01. -/
  | setPrefix (number : Byte) (body : List Byte)
  /-- DEL_PREFIX (R4), kind 0x02. -/
  | delPrefix (number : Byte) (body : List Byte)
  /-- SET_PLAN (R8, R9), kind 0x03. -/
  | setPlan (number : Byte) (body : List Byte)
  /-- SET_GROUP (R19 to R22), kind 0x04. -/
  | setGroup (number : Byte) (body : List Byte)
  /-- DEL_GROUP (R23), kind 0x05. -/
  | delGroup (number : Byte) (body : List Byte)
  /-- SET_CARRIER (R145, R146), kind 0x06. -/
  | setCarrier (number : Byte) (body : List Byte)
  /-- DEL_CARRIER (R147), kind 0x07. -/
  | delCarrier (number : Byte) (body : List Byte)
  /-- LOAD_TARIFF (R160), kind 0x08. -/
  | loadTariff (number : Byte) (body : List Byte)
  /-- SCHEDULE_TARIFF (R161), kind 0x09. -/
  | scheduleTariff (number : Byte) (body : List Byte)
  /-- CANCEL_TARIFF (R162), kind 0x0A. -/
  | cancelTariff (number : Byte) (body : List Byte)
  /-- SET_GAP (R113), kind 0x0B. -/
  | setGap (number : Byte) (body : List Byte)
  /-- DEL_GAP (R115), kind 0x0C. -/
  | delGap (number : Byte) (body : List Byte)
  /-- SET_AUTOGAP (R118), kind 0x0D. -/
  | setAutogap (number : Byte) (body : List Byte)
  /-- SET_CLOCK (R164), kind 0x0E. -/
  | setClock (number : Byte) (body : List Byte)
  /-- SET_PERIOD (R149), kind 0x0F. -/
  | setPeriod (number : Byte) (body : List Byte)
  /-- SEEK (R57 to R74), kind 0x20. -/
  | seek (number : Byte) (body : List Byte)
  /-- PROGRESS (R80), kind 0x21. -/
  | progress (number : Byte) (body : List Byte)
  /-- ANSWER (R81), kind 0x22. -/
  | answer (number : Byte) (body : List Byte)
  /-- FAIL (R87 to R91), kind 0x23. -/
  | fail (number : Byte) (body : List Byte)
  /-- CLEAR (R92), kind 0x24. -/
  | clear (number : Byte) (body : List Byte)
  /-- SERVICE (R34), kind 0x30. -/
  | service (number : Byte) (body : List Byte)
  /-- BLOCK (R31), kind 0x31. -/
  | block (number : Byte) (body : List Byte)
  /-- UNBLOCK (R32), kind 0x32. -/
  | unblock (number : Byte) (body : List Byte)
  /-- RESTART (R179, R180), kind 0x33: the request is taken and its effects begin to fall on the blocks, or those of the RESTART in
  service go on. -/
  | restart (number : Byte) (body : List Byte)
  /-- STATUS (R176), kind 0x40. -/
  | status (number : Byte) (body : List Byte)
  /-- READ_PREFIX (R5), kind 0x41. -/
  | readPrefix (number : Byte) (body : List Byte)
  /-- READ_PLAN (R11), kind 0x42. -/
  | readPlan (number : Byte) (body : List Byte)
  /-- READ_GROUP (R24, R48), kind 0x43. -/
  | readGroup (number : Byte) (body : List Byte)
  /-- READ_CIRCUIT (R33), kind 0x44. -/
  | readCircuit (number : Byte) (body : List Byte)
  /-- READ_CALL (R93), kind 0x45. -/
  | readCall (number : Byte) (body : List Byte)
  /-- READ_CARRIER (R148), kind 0x46. -/
  | readCarrier (number : Byte) (body : List Byte)
  /-- READ_TARIFF (R163), kind 0x47. -/
  | readTariff (number : Byte) (body : List Byte)
  /-- READ_GAPS (R116), kind 0x48. -/
  | readGaps (number : Byte) (body : List Byte)
  /-- COLLECT (R153, R154), kind 0x49. -/
  | collect (number : Byte) (body : List Byte)
  /-- CLOSE (R150 to R152), kind 0x4A. -/
  | close (number : Byte) (body : List Byte)
  /-- UNKNOWN_KIND (R181): the engine takes a frame whose kind names no request. -/
  | unknownKind (kind number : Byte) (body : List Byte)
  /-- FRAME_RECEIVED (R170, R171): characters of the in-line, in the order they arrive. -/
  | frameReceived (characters : List Byte)
  /-- INTER_CHARACTER_TIMEOUT (R170): more than 10 ms inside a frame without a character. -/
  | interCharacterTimeout
  /-- BROKEN_CHARACTER (R170): a character without its stop bit. -/
  | brokenCharacter
  /-- OUTLINE_FRAME_SEND (R173): the out-line is free. -/
  | outlineFrameSend
  /-- LINK_RESET_BEGIN (R177): the in-line has been spacing for 2 ms. -/
  | linkResetBegin
  /-- LINK_RESET_END (R177): the in-line returns to marking. -/
  | linkResetEnd
  /-- POWER_ON (R169, R178), with the levels of the straps A and B (true is high). -/
  | powerOn (strapA strapB : Bool)
  /-- RESET_PIN_ASSERT (R169). -/
  | resetPinAssert
  /-- RESET_PIN_RELEASE (R169, R178), with the levels of the straps A and B. -/
  | resetPinRelease (strapA strapB : Bool)
  /-- INIT_COMPLETE (R178). -/
  | initComplete
  /-- GUARD_EXPIRY (R30) of a circuit. -/
  | guardExpiry (circuit : Nat)
  /-- WINDOW_EXPIRY (R45, R46) of a group. -/
  | windowExpiry (group : Nat)
  /-- ESCALATION_EXPIRY (R51, R119) of a group. -/
  | escalationExpiry (group : Nat)
  /-- TS_EXPIRY (R101) of a group. -/
  | tsExpiry (group : Nat)
  /-- TQ_EXPIRY (R106) of a group. -/
  | tqExpiry (group : Nat)
  /-- TW_EXPIRY (R108) of a group. -/
  | twExpiry (group : Nat)
  /-- SEIZURE_SUPERVISION_EXPIRY (R84) of the call with a tag. -/
  | seizureSupervisionExpiry (tag : Nat)
  /-- CHARGE_STEP_EXPIRY (R86) of the call with a tag. -/
  | chargeStepExpiry (tag : Nat)
  /-- GAP_DURATION_EXPIRY (R114) of the entry in a slot. -/
  | gapDurationExpiry (slot : Nat)
  /-- PERIOD_TIMER_EXPIRY (R150). -/
  | periodTimerExpiry
  /-- PART_CLOCK_RISE (R164). -/
  | partClockRise
  /-- START_CODE_RECEIVED (R170): the byte 0xC3 arrives. -/
  | startCodeReceived
  /-- LENGTH_OUT_OF_RANGE (R170): two length bytes arrive whose length is below 2 or above 1,024. -/
  | lengthOutOfRange (high low : Byte)
  /-- RESTART_COMPLETION (R180): what is left of the effects falls, and the reply is built. -/
  | restartCompletion
  deriving DecidableEq, Repr

end Sys2Proof
end

