-- ==== Sys2Proof/Decode.lean ====
section
/-! DEFINITION. Which command a word of the table's bits spells. The table gives no row any bits (every row's "fields" is empty and
none has "fixed"), so no word spells a command: the part's commands are events, and its frames are decoded by the request
bodies of Machine/Operands.lean. Beside it stand the catalogue of request kinds and the reading of a frame's length, which the
receiver and the engine use. -/

namespace Sys2Proof

/-- No row of spec/opcode_table.json gives bits, so no word spells a command. -/
def decodeTableWord (_nbits _w : Nat) : Option Instr := none

/-- The request kinds of the catalogue (R181). -/
def requestKinds : List Nat :=
  [0x01, 0x02, 0x03, 0x04, 0x05, 0x06, 0x07, 0x08, 0x09, 0x0A, 0x0B, 0x0C, 0x0D, 0x0E, 0x0F] ++
  [0x20, 0x21, 0x22, 0x23, 0x24, 0x30, 0x31, 0x32, 0x33] ++
  [0x40, 0x41, 0x42, 0x43, 0x44, 0x45, 0x46, 0x47, 0x48, 0x49, 0x4A]

/-- Whether a kind names a request (R181). -/
def isRequestKind (kind : Byte) : Bool := requestKinds.contains kind.toNat

/-- The length that two length bytes give, most significant first (R182). -/
def lengthOf (high low : Byte) : Nat := high.toNat * 256 + low.toNat

/-- Whether a frame may have this length (R170). -/
def lengthInRange (length : Nat) : Bool := decide (2 ≤ length) && decide (length ≤ 1024)

end Sys2Proof
end

