-- ==== Sys2Proof/Config.lean ====
section
/-! DEFINITION. What the part fixes (sizes and limits of the manual) and what the manual leaves open (the free values, which have
no body, so that nothing can be proved of them). -/

namespace Sys2Proof.Config

/-- Frames the request queue holds (R171). -/
def requestCapacity : Nat := 8
/-- Replies the reply queue holds (R172). -/
def replyCapacity : Nat := 8
/-- Advisories the advisory queue holds (R174). -/
def advisoryCapacity : Nat := 32
/-- Entries the prefix table holds (R1). -/
def prefixCapacity : Nat := 4096
/-- Slots of the gap table (R112). -/
def gapCapacity : Nat := 64
/-- Route plans (R7). -/
def planCount : Nat := 1024
/-- Trunk groups (R17). -/
def groupCount : Nat := 512
/-- Circuits (R17). -/
def circuitCount : Nat := 16384
/-- Carriers (R143). -/
def carrierCount : Nat := 128
/-- Tariff classes (R159). -/
def classCount : Nat := 64

/-- The largest 32-bit count (R43, R112, R139, R164). -/
def max32 : Nat := 4294967295
/-- The largest value of an account's accumulator, 2^36 - 1 cu (R139). -/
def maxAccumulator : Nat := 68719476735
/-- The largest value of a call's total, 2^40 - 1 cu (R140). -/
def maxTotal : Nat := 1099511627775

/-- The AUTO_GAP interval after power-on (R124, R178). -/
def autoGapDefault : Nat := 1000
/-- The initialisation lasts at most this many ms (R178). -/
def initBound : Nat := 40
/-- RESTART completes within this many ms (R180). -/
def restartBound : Nat := 25
/-- More than this many ms between two characters abandon a frame (R170). -/
def characterGap : Nat := 10

/-- FREE VALUE (log 3): which of several events due in one tick comes first. Applied to a counter of the state. -/
opaque expiryPick : Nat → Nat
/-- FREE VALUE (log 5, R125): how many groups report their falls before RESTART removes the AUTO gaps. Applied to a counter of
the state. -/
opaque restartPurgePoint : Nat → Nat
/-- FREE VALUE (log 6, R180): whether the count of AUTO gaps that RESTART reports takes in those that a fall report removed on
the way. -/
opaque restartCountsFallRemovals : Bool
/-- FREE VALUE (log 26, R180): how many of the effects still left of a RESTART fall before the next event is taken. Applied to a
counter of the state. -/
opaque restartPace : Nat → Nat

end Sys2Proof.Config
end

