-- ==== Sys2Proof/Machine/State.lean ====
section
/-! DEFINITION. What the part holds, block by block as spec/00_scope.md section 3.2 gives each block its state, and the state right
after power-on. A timer is none when stopped and otherwise the tick of its expiry. -/

namespace Sys2Proof.Machine

/-- Records reached by a number: keys strictly rising, and only what is configured is listed (log 28). -/
abbrev Table (α : Type) := List (Nat × α)

/-- A timer of the part: stopped, or running with a time of expiry on the 1 ms tick. -/
abbrev Timer := Option Nat

/-- A string of decimal digits, first digit first; each is 0..9. -/
abbrev Digits := List Nat

/-! ### Route Selector -/

/-- An entry of the prefix table (R1). -/
structure PrefixEntry where
  digits : Digits
  plan : Nat
  note : Option Nat
  deriving DecidableEq, Repr

/-- The mode of a plan (R7). -/
inductive PlanMode where
  | fixed
  | sticky
  deriving DecidableEq, Repr

/-- A configured route plan (R7). -/
structure Plan where
  choices : List Nat
  mode : PlanMode
  stickyPosition : Option Nat
  ceiling : Option Nat
  crankbackLimit : Nat
  deriving DecidableEq, Repr

/-- The state RSL owns. The prefix table is listed in table order (R5), which makes equal tables equal lists (log 28). -/
structure Rsl where
  prefixes : List PrefixEntry
  plans : Table Plan
  deriving DecidableEq, Repr

/-! ### Trunk Group Monitor -/

/-- The order in which the hunt chooses among IDLE circuits (R17, R27). -/
inductive HuntOrder where
  | ascending
  | descending
  | rotating
  deriving DecidableEq, Repr

/-- The configured fields of a trunk group (R17). -/
structure GroupConfig where
  carrier : Nat
  tariffClass : Nat
  firstCircuit : Nat
  circuitCount : Nat
  hunt : HuntOrder
  reservation : Nat
  i1 : Nat
  i2 : Nat
  i3 : Nat
  hysteresis : Nat
  windowLength : Nat
  m0 : Nat
  m1 : Nat
  m2 : Nat
  m3 : Nat
  seizureTime : Nat
  guardTime : Nat
  suspensionCount : Nat
  ts : Nat
  tq : Nat
  tw : Nat
  te : Nat
  deleteCount : Nat
  insertDigits : Digits
  deriving DecidableEq, Repr

/-- The service state of a group (R18, R99). -/
inductive ServiceState where
  | inService
  | outOfService
  | suspended
  | reopenFirst
  | reopenQuiet
  | reopenSecond
  deriving DecidableEq, Repr

/-- The window counters (R43). -/
structure WindowCounters where
  seizures : Nat
  overflows : Nat
  answers : Nat
  minIdle : Nat
  maxBusy : Nat
  deriving DecidableEq, Repr

/-- The last-window record (R46, R48). -/
structure LastWindow where
  counters : WindowCounters
  endTime : Nat
  deriving DecidableEq, Repr

/-- A configured trunk group: its configured fields and its running fields (R17, R18). -/
structure Group where
  config : GroupConfig
  service : ServiceState
  level : Nat
  idleCount : Nat
  faultCount : Nat
  probe : Option Nat
  rotatePosition : Nat
  window : WindowCounters
  lastWindow : Option LastWindow
  windowTimer : Timer
  escalationTimer : Timer
  tsTimer : Timer
  tqTimer : Timer
  twTimer : Timer
  deriving DecidableEq, Repr

/-- The state of an owned circuit: GUARD holds its expiry and BUSY the call's tag (R25). -/
inductive CircuitState where
  | idle
  | guarding (expiry : Nat)
  | busy (tag : Nat)
  | blocked
  deriving DecidableEq, Repr

/-- An owned circuit (R25). A circuit with owner none is IDLE with block-pending clear and is not listed. -/
structure Circuit where
  owner : Nat
  state : CircuitState
  blockPending : Bool
  deriving DecidableEq, Repr

/-- The state TGM owns. -/
structure Tgm where
  groups : Table Group
  circuits : Table Circuit
  deriving DecidableEq, Repr

/-! ### Call Table -/

/-- The class of a call (chapter 4.1). -/
inductive CallClass where
  | ordinary
  | priority
  | onward
  deriving DecidableEq, Repr

/-- The state of a live call (R78). -/
inductive CallState where
  | seizing
  | alerting
  | answered
  deriving DecidableEq, Repr

/-- A live call record (R77); its tag is its key in the call table. -/
structure Call where
  number : Digits
  circuit : Nat
  group : Nat
  plan : Nat
  position : Nat
  callClass : CallClass
  incoming : Nat
  attempts : Nat
  state : CallState
  multiplier : Nat
  tariffClass : Nat
  probe : Bool
  grantTime : Nat
  answerTime : Option Nat
  steps : Nat
  payable : Nat
  receivable : Nat
  supervision : Timer
  chargeStep : Timer
  deriving DecidableEq, Repr

/-! ### Charging Unit -/

/-- The four values of a tariff (R159). -/
structure TariffValues where
  setup : Nat
  price : Nat
  interval : Nat
  fine : Nat
  deriving DecidableEq, Repr

/-- A configured tariff class (R159). -/
structure TariffClass where
  active : TariffValues
  pendingSet : Option TariffValues
  schedule : Option Nat
  deriving DecidableEq, Repr

/-- The accumulators, counts and saturation marks of a bank (R139, R144). -/
structure Bank where
  payable : Nat
  receivable : Nat
  steps : Nat
  handovers : Nat
  transits : Nat
  payableMark : Bool
  receivableMark : Bool
  deriving DecidableEq, Repr

/-- A closed bank (R144): `closedAt` is the period number and the close time, absent together. -/
structure ClosedBank where
  bank : Bank
  closedAt : Option (Nat × Nat)
  tariffMark : Bool
  collected : Bool
  deriving DecidableEq, Repr

/-- The configured fields of a carrier account (R143). -/
structure AccountConfig where
  margin : Nat
  b1 : Nat
  b2 : Nat
  b3 : Nat
  t0 : Nat
  t1 : Nat
  t2 : Nat
  t3 : Nat
  deriving DecidableEq, Repr

/-- A configured carrier account (R143, R144). -/
structure Account where
  config : AccountConfig
  running : Bank
  closed : ClosedBank
  deriving DecidableEq, Repr

/-- The period state (R149). -/
structure Period where
  number : Nat
  length : Nat
  timer : Timer
  held : Bool
  tariffMark : Bool
  deriving DecidableEq, Repr

/-- The state CHU owns. -/
structure Chu where
  accounts : Table Account
  tariffs : Table TariffClass
  period : Period
  deriving DecidableEq, Repr

/-! ### Gap Control -/

/-- The key of a gap entry (R112). -/
inductive GapKey where
  | digits (ds : Digits)
  | plan (index : Nat)
  deriving DecidableEq, Repr

/-- The origin of a gap entry (R112). -/
inductive GapOrigin where
  | manual
  | auto
  deriving DecidableEq, Repr

/-- A gap entry (R112); its slot is its key in the gap table. -/
structure Gap where
  key : GapKey
  origin : GapOrigin
  interval : Nat
  nextAdmit : Nat
  expiry : Timer
  admitted : Nat
  refused : Nat
  deriving DecidableEq, Repr

/-- The state GPC owns. -/
structure Gpc where
  gaps : Table Gap
  autoInterval : Nat
  deriving DecidableEq, Repr

/-! ### Time Base -/

/-- The state TMB owns: the tick, the part clock and the ticks since its last rise or setting (R164). -/
structure Tmb where
  now : Nat
  clock : Nat
  clockCount : Nat
  deriving DecidableEq, Repr

/-! ### Link Interface -/

/-- A frame between its start code and its check: a request as received, or a reply as built (R182). -/
structure Frame where
  kind : Byte
  number : Byte
  body : List Byte
  deriving DecidableEq, Repr

/-- The receiver (R170): hunting, or inside a frame with the bytes after the start code and the tick of the last character. -/
inductive Receiver where
  | hunting
  | inside (bytes : List Byte) (last : Nat)
  deriving DecidableEq, Repr

/-- Why a group was suspended (R100). -/
inductive SuspendCause where
  | faultRun
  | reopenLapsed
  deriving DecidableEq, Repr

/-- Whether a qualifying plan was gapped (R120). -/
inductive GapMark where
  | placed
  | notPlaced
  deriving DecidableEq, Repr

/-- What ended or held a period (R155). -/
inductive PeriodTrigger where
  | timer
  | request
  | release
  deriving DecidableEq, Repr

/-- What activated a tariff (R165). -/
inductive TariffTrigger where
  | clock
  | request
  | setClock
  deriving DecidableEq, Repr

/-- Why READY is sent (R174). -/
inductive ReadyCause where
  | powerOn
  | linkReset
  deriving DecidableEq, Repr

/-- An advisory with its fields (R174). Its age is its place in the queue. -/
inductive Advisory where
  | timeout (tag group circuit : Nat)
  | suspended (group : Nat) (cause : SuspendCause) (count : Nat)
  | strain (group level : Nat)
  | restored (group level : Nat)
  | gapOn (plan group interval : Nat) (mark : GapMark)
  | gapOff (plan group : Nat)
  | closeHeld (period uncollected : Nat) (trigger : PeriodTrigger)
  | closed (period closeTime accounts : Nat) (tariffMark : Bool) (trigger : PeriodTrigger)
  | tariffOn (index : Nat) (values : TariffValues) (clock : Nat) (trigger : TariffTrigger)
  | restarted (calls gaps : Nat)
  | ready (cause : ReadyCause)
  deriving DecidableEq, Repr

/-- The part is initialising (NOT_READY), running, or held by its reset pin (R169, R178). -/
inductive Phase where
  | initialising
  | running
  | held
  deriving DecidableEq, Repr

/-- The line rates the straps choose (R169). -/
inductive LineRate where
  | r115200
  | r460800
  | r921600
  | r3686400
  deriving DecidableEq, Repr

/-- A link reset between its beginning and its end (R177): `marking` says the in-line has returned to marking while a served
RESTART still runs, `inInit` that it began during the initialisation (R178). -/
structure LinkReset where
  marking : Bool
  inInit : Bool
  deriving DecidableEq, Repr

/-- One effect of a RESTART on the blocks (R179, R180): the calls are removed and the circuits freed, one group's strain state is
set afresh, the AUTO gaps are removed, RESTARTED is queued. Each is one step, and other events may fall between two of them. -/
inductive RestartEffect where
  | freeCalls
  | resetGroup (g : Nat)
  | purgeGaps
  | announce
  deriving DecidableEq, Repr

/-- A RESTART that the engine is serving (R180): its request number, the calls and AUTO gaps removed so far, the ms it has run,
and the effects that have not fallen yet, in their order. -/
structure Serving where
  number : Byte
  calls : Nat
  gaps : Nat
  elapsed : Nat
  left : List RestartEffect
  deriving DecidableEq, Repr

/-- The state LIF owns. -/
structure Lif where
  phase : Phase
  initElapsed : Nat
  lineRate : LineRate
  receiver : Receiver
  requests : List Frame
  replies : List Frame
  advisories : List Advisory
  outLine : Option (List Byte)
  advisoryLost : Bool
  overrun : Bool
  linkError : Bool
  linkReset : Option LinkReset
  serving : Option Serving
  deriving DecidableEq, Repr

/-! ### The whole part -/

/-- Everything the part holds, and the queue of the commands that wait for it. `freeCounter` is the model's own field, which the
free values of Config are applied to (log 3, log 5, log 26). -/
structure State where
  lif : Lif
  rsl : Rsl
  tgm : Tgm
  ctb : Table Call
  chu : Chu
  gpc : Gpc
  tmb : Tmb
  pending : List Instr
  freeCounter : Nat
  deriving DecidableEq, Repr

/-- Why the model stops with a fault. -/
inductive Fault where
  /-- Raised by SEEK, PROGRESS, ANSWER, FAIL, CLEAR, SEIZURE_SUPERVISION_EXPIRY and CHARGE_STEP_EXPIRY when records that R16, R77
  and R126 keep together are found apart: a live call whose group, plan, account or tariff is missing, a prefix entry whose
  plan is missing, an idle count without an IDLE circuit. The manual's laws say that this does not happen. Safe: the model
  stops where the manual gives no effect (log 23). -/
  | lawBroken
  deriving DecidableEq, Repr

/-- Why a command has no meaning. -/
inductive Refusal where
  /-- Raised by a row that has no meaning yet; no row of this model is one. Safe. -/
  | notModelled (mnemonic : String)
  deriving DecidableEq, Repr

/-- The part as POWER_ON leaves it, with its initialisation begun and every memory cleared (R178; R6, R13, R37, R98, R124, R158,
R168). The line rate and the free counter are DESIGN CHOICES (log 4, log 3). -/
def State.reset : State where
  lif :=
    { phase := .initialising, initElapsed := 0, lineRate := .r115200, receiver := .hunting, requests := [], replies := [],
      advisories := [], outLine := none, advisoryLost := false, overrun := false, linkError := false, linkReset := none,
      serving := none }
  rsl := { prefixes := [], plans := [] }
  tgm := { groups := [], circuits := [] }
  ctb := []
  chu :=
    { accounts := [], tariffs := [],
      period := { number := 1, length := 0, timer := none, held := false, tariffMark := false } }
  gpc := { gaps := [], autoInterval := Config.autoGapDefault }
  tmb := { now := 0, clock := 0, clockCount := 0 }
  pending := []
  freeCounter := 0

end Sys2Proof.Machine
end

