-- ==== Sys2Proof/Machine/Ops.lean ====
section
/-! DEFINITION. The shared operations: tables in canonical form, the update of each record, counters that saturate, timers, and the
advisory queue (R174). -/

namespace Sys2Proof.Machine

/-! ### Tables -/

namespace Table

/-- The record at a key, if there is one. -/
def get? {α : Type} : Table α → Nat → Option α
  | [], _ => none
  | (k', v) :: t, k => if k' = k then some v else get? t k

/-- Writes the record at a key, keeping the keys rising. -/
def put {α : Type} : Table α → Nat → α → Table α
  | [], k, v => [(k, v)]
  | (k', v') :: t, k, v =>
    if k < k' then (k, v) :: (k', v') :: t
    else if k = k' then (k, v) :: t
    else (k', v') :: put t k v

/-- Removes the record at a key. -/
def erase {α : Type} : Table α → Nat → Table α
  | [], _ => []
  | (k', v') :: t, k => if k' = k then t else (k', v') :: erase t k

/-- Changes every record by a function of its key. -/
def mapValues {α : Type} (f : Nat → α → α) : Table α → Table α
  | [] => []
  | (k, v) :: t => (k, f k v) :: mapValues f t

/-- The keys, in rising order. -/
def keys {α : Type} (t : Table α) : List Nat := t.map (·.1)

/-- The canonical form: keys strictly rising (log 28). -/
def wf {α : Type} : Table α → Bool
  | [] => true
  | (k, _) :: t => t.all (fun e => decide (k < e.1)) && wf t

end Table

/-! ### Numbers -/

/-- Adds to a counter that holds at its largest value (spec/00_scope.md 4.3). -/
def satAdd (largest value amount : Nat) : Nat := min largest (value + amount)

/-- A value forced into a range (the clamp of spec/00_scope.md 4.3). -/
def clamp (low high value : Nat) : Nat := max low (min high value)

/-- Milliseconds of a time given in seconds. -/
def msOfSeconds (s : Nat) : Nat := s * 1000

/-! ### Timers -/

/-- A timer whose time of expiry has come. -/
def Timer.due (t : Timer) (now : Nat) : Bool :=
  match t with
  | none => false
  | some e => decide (e ≤ now)

/-- The time remaining to an expiry in ms, 0 when it has passed. -/
def remainingTo (expiry now : Nat) : Nat := expiry - now

/-! ### The records of the state -/

namespace State

/-- Changes what LIF holds. -/
def withLif (s : State) (f : Lif → Lif) : State := { s with lif := f s.lif }

/-- The plan at an index (R7). -/
def plan? (s : State) (p : Nat) : Option Plan := s.rsl.plans.get? p

/-- Writes the plan at an index. -/
def putPlan (s : State) (p : Nat) (plan : Plan) : State :=
  { s with rsl := { s.rsl with plans := s.rsl.plans.put p plan } }

/-- Writes the prefix table. -/
def setPrefixes (s : State) (entries : List PrefixEntry) : State :=
  { s with rsl := { s.rsl with prefixes := entries } }

/-- The group at an index, if configured (R17). -/
def group? (s : State) (g : Nat) : Option Group := s.tgm.groups.get? g

/-- Writes the group at an index. -/
def putGroup (s : State) (g : Nat) (grp : Group) : State :=
  { s with tgm := { s.tgm with groups := s.tgm.groups.put g grp } }

/-- Makes a group not configured. -/
def eraseGroup (s : State) (g : Nat) : State :=
  { s with tgm := { s.tgm with groups := s.tgm.groups.erase g } }

/-- Writes the group table. -/
def setGroups (s : State) (groups : Table Group) : State := { s with tgm := { s.tgm with groups := groups } }

/-- Changes the group at an index, if it is configured. -/
def modifyGroup (s : State) (g : Nat) (f : Group → Group) : State :=
  match s.group? g with
  | none => s
  | some grp => s.putGroup g (f grp)

/-- The circuit at an index, if it has an owner (R25). -/
def circuit? (s : State) (c : Nat) : Option Circuit := s.tgm.circuits.get? c

/-- Writes the circuit at an index. -/
def putCircuit (s : State) (c : Nat) (circ : Circuit) : State :=
  { s with tgm := { s.tgm with circuits := s.tgm.circuits.put c circ } }

/-- Writes the circuit table. -/
def setCircuits (s : State) (circuits : Table Circuit) : State :=
  { s with tgm := { s.tgm with circuits := circuits } }

/-- The live call with a tag (R77). -/
def call? (s : State) (tag : Nat) : Option Call := s.ctb.get? tag

/-- Writes the record of a live call. -/
def putCall (s : State) (tag : Nat) (call : Call) : State := { s with ctb := s.ctb.put tag call }

/-- Removes the record of a call; its tag is free. -/
def eraseCall (s : State) (tag : Nat) : State := { s with ctb := s.ctb.erase tag }

/-- Changes the record of a call, if it is live. -/
def modifyCall (s : State) (tag : Nat) (f : Call → Call) : State :=
  match s.call? tag with
  | none => s
  | some call => s.putCall tag (f call)

/-- The account of a carrier, if configured (R143). -/
def account? (s : State) (k : Nat) : Option Account := s.chu.accounts.get? k

/-- Writes the account table. -/
def setAccounts (s : State) (accounts : Table Account) : State :=
  { s with chu := { s.chu with accounts := accounts } }

/-- Writes the account of a carrier. -/
def putAccount (s : State) (k : Nat) (a : Account) : State := s.setAccounts (s.chu.accounts.put k a)

/-- The tariff class at an index, if configured (R159). -/
def tariff? (s : State) (c : Nat) : Option TariffClass := s.chu.tariffs.get? c

/-- Writes the tariff class at an index. -/
def putTariff (s : State) (c : Nat) (t : TariffClass) : State :=
  { s with chu := { s.chu with tariffs := s.chu.tariffs.put c t } }

/-- Writes the period state. -/
def setPeriodState (s : State) (p : Period) : State := { s with chu := { s.chu with period := p } }

/-- Writes the gap table. -/
def setGaps (s : State) (gaps : Table Gap) : State := { s with gpc := { s.gpc with gaps := gaps } }

/-- Writes what TMB holds. -/
def setTime (s : State) (t : Tmb) : State := { s with tmb := t }

/-- The tick. -/
def now (s : State) : Nat := s.tmb.now

end State

/-! ### The advisory queue -/

/-- The priority of an advisory's kind (R174). -/
def Advisory.priority : Advisory → Nat
  | .timeout .. => 1
  | .suspended .. => 2
  | .strain .. => 3
  | .restored .. => 4
  | .gapOn .. => 5
  | .gapOff .. => 6
  | .closeHeld .. => 7
  | .closed .. => 8
  | .tariffOn .. => 9
  | .restarted .. => 10
  | .ready .. => 11

/-- Whether an advisory is a STRAIN of a group. -/
def Advisory.isStrainOf (g : Nat) : Advisory → Bool
  | .strain g' _ => decide (g' = g)
  | _ => false

/-- Rewrites the level of a queued STRAIN of a group, keeping its age (R49, R174). -/
def rewriteStrain (g level : Nat) (queue : List Advisory) : List Advisory :=
  queue.map (fun a => if a.isStrainOf g then .strain g level else a)

namespace Lif

/-- Adds an advisory with the newest age, or loses it when the queue is full (R174). -/
def addAdvisory (l : Lif) (a : Advisory) : Lif :=
  if l.advisories.length < Config.advisoryCapacity then { l with advisories := l.advisories ++ [a] }
  else { l with advisoryLost := true }

/-- What LIF does with an advisory that a block offers (R174). -/
def enqueue (l : Lif) (a : Advisory) : Lif :=
  match a with
  | .strain g level =>
    if l.advisories.any (Advisory.isStrainOf g) then { l with advisories := rewriteStrain g level l.advisories }
    else l.addAdvisory a
  | .restarted .. =>
    if l.advisories.length < Config.advisoryCapacity then { l with advisories := l.advisories ++ [a] }
    else { l with advisories := l.advisories.dropLast ++ [a], advisoryLost := true }
  | _ => l.addAdvisory a

/-- An advisory offered by a block; between the beginning and the end of a link reset it is discarded, with no flag set (R177). -/
def offer (l : Lif) (a : Advisory) : Lif :=
  if l.linkReset.isSome then l else l.enqueue a

end Lif

/-- A block offers an advisory to LIF (R174, R177). -/
def State.offer (s : State) (a : Advisory) : State := { s with lif := s.lif.offer a }

/-- The first advisory in delivery order, by priority and then age, and the queue without it (R174). -/
def takeAdvisory : List Advisory → Option (Advisory × List Advisory)
  | [] => none
  | a :: rest =>
    match takeAdvisory rest with
    | none => some (a, [])
    | some (b, others) => if a.priority ≤ b.priority then some (a, rest) else some (b, a :: others)

end Sys2Proof.Machine
end

