-- ==== Sys2Proof/Machine/Flags.lean ====
section
/-! DEFINITION. What is computed from bits and counts: the frame check (R170), the summary byte (R175, R182), the strain level
(R40, R45, R53) and the tier and charges (R127 to R132). -/

namespace Sys2Proof.Machine

/-! ### The frame check -/

/-- One step of the cyclic check: shift left, and add the generator when a one falls out (R170). -/
def checkShift (c : Check) : Check :=
  if c.getMsbD 0 then (c <<< 1) ^^^ 0x1021#16 else c <<< 1

/-- The check after one more byte, most significant bit first (R170). -/
def checkByte (c : Check) (b : Byte) : Check :=
  let c := c ^^^ (b.setWidth 16 <<< 8)
  checkShift (checkShift (checkShift (checkShift (checkShift (checkShift (checkShift (checkShift c)))))))

/-- The 16-bit cyclic check of a byte string, from 0xFFFF and with no final inversion (R170). -/
def frameCheck (bytes : List Byte) : Check := bytes.foldl checkByte 0xFFFF#16

/-! ### The summary byte -/

/-- A configured group stands at strain level 3 (R50). -/
def State.anyLevel3 (s : State) : Bool := s.tgm.groups.any (fun e => decide (e.2.level = 3))

/-- The gap table holds an AUTO entry (R122). -/
def State.autoGapActive (s : State) : Bool := s.gpc.gaps.any (fun e => decide (e.2.origin = .auto))

/-- The power-on initialisation runs (R178). -/
def State.notReady (s : State) : Bool := decide (s.lif.phase = .initialising)

/-- The byte of eight flags, bit 0 first. -/
def packFlags (b0 b1 b2 b3 b4 b5 b6 b7 : Bool) : Byte :=
  BitVec.ofNat 8 (b0.toNat + 2 * b1.toNat + 4 * b2.toNat + 8 * b3.toNat + 16 * b4.toNat + 32 * b5.toNat +
    64 * b6.toNat + 128 * b7.toNat)

/-- The summary byte of a state (R175, R182). -/
def State.summaryByte (s : State) : Byte :=
  packFlags (!s.lif.advisories.isEmpty) s.lif.advisoryLost s.lif.overrun s.lif.linkError s.anyLevel3 s.chu.period.held
    s.autoGapActive s.notReady

/-- The summary byte with NOT_READY alone (R178). -/
def notReadySummary : Byte := packFlags false false false false false false false true

/-! ### Strain -/

/-- The raise function f (R40). -/
def GroupConfig.raiseLevel (c : GroupConfig) (idle : Nat) : Nat :=
  if idle ≤ c.i3 then 3 else if idle ≤ c.i2 then 2 else if idle ≤ c.i1 then 1 else 0

/-- The threshold of a level above 0 (R45). -/
def GroupConfig.threshold (c : GroupConfig) (level : Nat) : Nat :=
  if level = 3 then c.i3 else if level = 2 then c.i2 else c.i1

/-- The fall test (R45). -/
def Group.falls (grp : Group) : Bool :=
  decide (0 < grp.level) && decide (grp.config.threshold grp.level + grp.config.hysteresis < grp.window.minIdle)

/-- The surcharge multiplier of a level (R53). -/
def GroupConfig.multiplier (c : GroupConfig) (level : Nat) : Nat :=
  if level = 0 then c.m0 else if level = 1 then c.m1 else if level = 2 then c.m2 else c.m3

/-- The current multiplier of a group (R53). -/
def Group.multiplier (grp : Group) : Nat := grp.config.multiplier grp.level

/-! ### Pricing -/

/-- The tier a step count chooses (R127). -/
def AccountConfig.tier (a : AccountConfig) (n : Nat) : Nat :=
  if n < a.b1 then 0 else if n < a.b2 then 1 else if n < a.b3 then 2 else 3

/-- The factor of the tier a step count chooses (R127). -/
def AccountConfig.factor (a : AccountConfig) (n : Nat) : Nat :=
  if n < a.b1 then a.t0 else if n < a.b2 then a.t1 else if n < a.b3 then a.t2 else a.t3

/-- The payable step charge, P times M times T over 4,096, rounded half up (R128). -/
def stepCharge (price multiplier factor : Nat) : Nat := (price * multiplier * factor + 2048) / 4096

/-- The setup charge, S times M over 64, rounded half up (R130). -/
def setupCharge (setup multiplier : Nat) : Nat := (setup * multiplier + 32) / 64

/-- The metering interval D of a tariff, in ms (R131). -/
def TariffValues.intervalMs (v : TariffValues) : Nat := (v.interval + 1) * 16 + v.fine

/-- The rate per minute of a step charge over an interval, rounded half up (R132). -/
def ratePerMinute (charge interval : Nat) : Nat := (charge * 60000 + interval / 2) / interval

end Sys2Proof.Machine
end

