-- ==== Sys2Proof/Machine/Operands.lean ====
section
/-! DEFINITION. The byte layouts (R182): reading the fields of a request body in the order its owning rule lists them, and laying out
the fields of replies and advisories. A reader answers none when the body is too short. -/

namespace Sys2Proof.Machine

/-! ### Reading -/

/-- The value of a byte string, most significant byte first (R182). -/
def valueOf (bytes : List Byte) : Nat := bytes.foldl (fun v b => v * 256 + b.toNat) 0

/-- Reads a number of n bytes (R182). -/
def takeNumber (n : Nat) (body : List Byte) : Option (Nat × List Byte) :=
  if n ≤ body.length then some (valueOf (body.take n), body.drop n) else none

/-- The four-bit values packed in bytes, the high four bits first (R182). -/
def nibbles : List Byte → List Nat
  | [] => []
  | b :: rest => (b.toNat / 16) :: (b.toNat % 16) :: nibbles rest

/-- Bytes that a string of n digits takes (R182). -/
def packedLength (n : Nat) : Nat := (n + 1) / 2

/-- Reads a digit string: a count, then the digits two to a byte; the padding of an odd count is not read (R182). The values are
the four bits as sent, so one above 9 is possible and is refused by the owning block. -/
def takeDigits (body : List Byte) : Option (Digits × List Byte) :=
  match body with
  | [] => none
  | count :: rest =>
    if packedLength count.toNat ≤ rest.length then
      some ((nibbles (rest.take (packedLength count.toNat))).take count.toNat, rest.drop (packedLength count.toNat))
    else none

/-- Every position of a digit string holds a decimal digit. -/
def digitsDecimal (ds : Digits) : Bool := ds.all (fun d => decide (d ≤ 9))

/-- Reads a field that may be absent, behind its presence byte (R182). -/
def takeOptional (n : Nat) (body : List Byte) : Option (Option Nat × List Byte) :=
  match body with
  | [] => none
  | flag :: rest =>
    if flag = 0 then some (none, rest)
    else (takeNumber n rest).map (fun r => (some r.1, r.2))

/-- Reads k numbers of n bytes each. -/
def takeNumbers (n : Nat) : Nat → List Byte → Option (List Nat × List Byte)
  | 0, body => some ([], body)
  | k + 1, body => do
    let (v, body) ← takeNumber n body
    let (vs, body) ← takeNumbers n k body
    return (v :: vs, body)

/-! ### Laying out -/

/-- A number in n bytes, most significant byte first (R182). -/
def putNumber : Nat → Nat → List Byte
  | 0, _ => []
  | n + 1, v => BitVec.ofNat 8 (v / 256 ^ n) :: putNumber n v

/-- Digits two to a byte (R182). The padding of an odd count, whose value R182 does not give, is 0: the model's choice (log 35). -/
def packDigits : Digits → List Byte
  | [] => []
  | [a] => [BitVec.ofNat 8 (a * 16)]
  | a :: b :: rest => BitVec.ofNat 8 (a * 16 + b) :: packDigits rest

/-- A digit string: its count, then the digits packed (R182). -/
def putDigits (ds : Digits) : List Byte := BitVec.ofNat 8 ds.length :: packDigits ds

/-- A flag, 1 when set (log 11). -/
def putFlag (b : Bool) : List Byte := [BitVec.ofNat 8 b.toNat]

/-- A field that may be absent: a presence byte, and the field when present (R182). The absent marker is the byte 0. -/
def putOptional {α : Type} (lay : α → List Byte) : Option α → List Byte
  | none => [0]
  | some v => 1 :: lay v

/-- A list of repeated fields behind its count (R182). -/
def putList {α : Type} (lay : α → List Byte) (l : List α) : List Byte := BitVec.ofNat 8 l.length :: l.flatMap lay

/-- A time remaining, in 4 bytes; 0xFFFFFFFF stands for stopped, none and INDEFINITE (R182). -/
def putRemaining (now : Nat) : Timer → List Byte
  | none => [0xFF, 0xFF, 0xFF, 0xFF]
  | some e => putNumber 4 (remainingTo e now)

/-! ### Result and cause codes (R181) -/

/-- The result codes. -/
inductive Result where
  | ok
  | notReady
  | badLength
  | badIndex
  | badValue
  | notConfigured
  | inUse
  | overlap
  | tableFull
  | duplicateTag
  | unknownCall
  | wrongState
  | scheduled
  | held
  | unknownKind
  | badCarrier
  | grant
  | regrant
  | deny
  | final
  deriving DecidableEq, Repr

/-- The byte of a result (R181). -/
def Result.code : Result → Byte
  | .ok => 0x00
  | .notReady => 0x01
  | .badLength => 0x02
  | .badIndex => 0x03
  | .badValue => 0x04
  | .notConfigured => 0x05
  | .inUse => 0x06
  | .overlap => 0x07
  | .tableFull => 0x08
  | .duplicateTag => 0x09
  | .unknownCall => 0x0A
  | .wrongState => 0x0B
  | .scheduled => 0x0C
  | .held => 0x0D
  | .unknownKind => 0x0E
  | .badCarrier => 0x0F
  | .grant => 0x10
  | .regrant => 0x11
  | .deny => 0x12
  | .final => 0x13

/-- The causes of DENY and FINAL. -/
inductive Cause where
  | noPrefix
  | gapped
  | ceiling
  | strained
  | noCircuit
  | digits
  | unavailable
  | farBusy
  | farCongestion
  | circuitFault
  deriving DecidableEq, Repr

/-- The byte of a cause (R181). -/
def Cause.code : Cause → Byte
  | .noPrefix => 0x01
  | .gapped => 0x02
  | .ceiling => 0x03
  | .strained => 0x04
  | .noCircuit => 0x05
  | .digits => 0x06
  | .unavailable => 0x07
  | .farBusy => 0x08
  | .farCongestion => 0x09
  | .circuitFault => 0x0A

/-! ### Enumerated fields: coded 0, 1, 2 in the order of the rule that lists them (R182) -/

/-- R7. -/
def PlanMode.code : PlanMode → Byte
  | .fixed => 0
  | .sticky => 1

/-- R17. -/
def HuntOrder.code : HuntOrder → Byte
  | .ascending => 0
  | .descending => 1
  | .rotating => 2

/-- R18. -/
def ServiceState.code : ServiceState → Byte
  | .inService => 0
  | .outOfService => 1
  | .suspended => 2
  | .reopenFirst => 3
  | .reopenQuiet => 4
  | .reopenSecond => 5

/-- R25: IDLE, GUARD, BUSY, BLOCKED. -/
def CircuitState.code : CircuitState → Byte
  | .idle => 0
  | .guarding _ => 1
  | .busy _ => 2
  | .blocked => 3

/-- Chapter 4.1 and the SEEK layout of R182. -/
def CallClass.code : CallClass → Byte
  | .ordinary => 0
  | .priority => 1
  | .onward => 2

/-- R77. -/
def CallState.code : CallState → Byte
  | .seizing => 0
  | .alerting => 1
  | .answered => 2

/-- R112. -/
def GapOrigin.code : GapOrigin → Byte
  | .manual => 0
  | .auto => 1

/-- R100. -/
def SuspendCause.code : SuspendCause → Byte
  | .faultRun => 0
  | .reopenLapsed => 1

/-- R120. -/
def GapMark.code : GapMark → Byte
  | .placed => 0
  | .notPlaced => 1

/-- R155. -/
def PeriodTrigger.code : PeriodTrigger → Byte
  | .timer => 0
  | .request => 1
  | .release => 2

/-- R165. -/
def TariffTrigger.code : TariffTrigger → Byte
  | .clock => 0
  | .request => 1
  | .setClock => 2

/-- R174. -/
def ReadyCause.code : ReadyCause → Byte
  | .powerOn => 0
  | .linkReset => 1

/-- The line rate in bit/s (R169), which STATUS carries in 3 bytes (log 15). -/
def LineRate.bitsPerSecond : LineRate → Nat
  | .r115200 => 115200
  | .r460800 => 460800
  | .r921600 => 921600
  | .r3686400 => 3686400

/-- The mode a byte names (R8). -/
def planModeOf (b : Nat) : Option PlanMode :=
  if b = 0 then some .fixed else if b = 1 then some .sticky else none

/-- The hunt order a byte names (R19). -/
def huntOrderOf (b : Nat) : Option HuntOrder :=
  if b = 0 then some .ascending else if b = 1 then some .descending else if b = 2 then some .rotating else none

/-- The class a byte names (R57). -/
def callClassOf (b : Nat) : Option CallClass :=
  if b = 0 then some .ordinary else if b = 1 then some .priority else if b = 2 then some .onward else none

/-- The target of SERVICE a byte names (R34). -/
def serviceTargetOf (b : Nat) : Option ServiceState :=
  if b = 0 then some .inService else if b = 1 then some .outOfService else none

/-- The line rate the straps choose (R169). -/
def lineRateOf (strapA strapB : Bool) : LineRate :=
  match strapA, strapB with
  | false, false => .r115200
  | false, true => .r460800
  | true, false => .r921600
  | true, true => .r3686400

/-! ### Records as replies carry them -/

/-- The contents of a plan (R9, R11). -/
def Plan.layout (p : Plan) : List Byte :=
  putList (putNumber 2) p.choices ++ [p.mode.code] ++ putOptional (putNumber 1) p.stickyPosition ++
    putOptional (putNumber 3) p.ceiling ++ putNumber 1 p.crankbackLimit

/-- The plan and note of a prefix table entry (R3, R4). -/
def PrefixEntry.layout (e : PrefixEntry) : List Byte := putNumber 2 e.plan ++ putOptional (putNumber 2) e.note

/-- The configured fields of a group, in the order of R17. -/
def GroupConfig.layout (c : GroupConfig) : List Byte :=
  putNumber 1 c.carrier ++ putNumber 1 c.tariffClass ++ putNumber 2 c.firstCircuit ++ putNumber 2 c.circuitCount ++
    [c.hunt.code] ++ putNumber 1 c.reservation ++ putNumber 2 c.i1 ++ putNumber 2 c.i2 ++ putNumber 2 c.i3 ++
    putNumber 1 c.hysteresis ++ putNumber 2 c.windowLength ++ putNumber 1 c.m0 ++ putNumber 1 c.m1 ++ putNumber 1 c.m2 ++
    putNumber 1 c.m3 ++ putNumber 2 c.seizureTime ++ putNumber 2 c.guardTime ++ putNumber 1 c.suspensionCount ++
    putNumber 2 c.ts ++ putNumber 1 c.tq ++ putNumber 2 c.tw ++ putNumber 2 c.te ++ putNumber 1 c.deleteCount ++
    putDigits c.insertDigits

/-- The window counters (R43). -/
def WindowCounters.layout (w : WindowCounters) : List Byte :=
  putNumber 4 w.seizures ++ putNumber 4 w.overflows ++ putNumber 4 w.answers ++ putNumber 2 w.minIdle ++ putNumber 2 w.maxBusy

/-- The last-window record (R48). -/
def LastWindow.layout (w : LastWindow) : List Byte := w.counters.layout ++ putNumber 4 w.endTime

/-- The configured fields of an account (R143). -/
def AccountConfig.layout (a : AccountConfig) : List Byte :=
  putNumber 2 a.margin ++ putNumber 4 a.b1 ++ putNumber 4 a.b2 ++ putNumber 4 a.b3 ++ putNumber 1 a.t0 ++ putNumber 1 a.t1 ++
    putNumber 1 a.t2 ++ putNumber 1 a.t3

/-- The running bank (R144, R148). -/
def Bank.layout (b : Bank) : List Byte :=
  putNumber 5 b.payable ++ putNumber 5 b.receivable ++ putNumber 4 b.steps ++ putNumber 4 b.handovers ++
    putNumber 4 b.transits ++ putFlag b.payableMark ++ putFlag b.receivableMark

/-- The closed-bank record of R182; `before` is the collected-before flag, which COLLECT alone sets. -/
def ClosedBank.layout (carrier : Nat) (before : Bool) (c : ClosedBank) : List Byte :=
  putNumber 1 carrier ++
    [packFlags c.collected before c.bank.payableMark c.bank.receivableMark c.tariffMark c.closedAt.isSome false false] ++
    putNumber 4 ((c.closedAt.map (·.1)).getD 0) ++ putNumber 4 ((c.closedAt.map (·.2)).getD 0) ++
    putNumber 5 c.bank.payable ++ putNumber 5 c.bank.receivable ++ putNumber 4 c.bank.steps ++ putNumber 4 c.bank.handovers ++
    putNumber 4 c.bank.transits

/-- The four values of a tariff (R159, R160). -/
def TariffValues.layout (v : TariffValues) : List Byte :=
  putNumber 2 v.setup ++ putNumber 2 v.price ++ putNumber 2 v.interval ++ putNumber 1 v.fine

/-- The key of a gap entry: its kind, then the digits or the plan index (R113). -/
def GapKey.layout : GapKey → List Byte
  | .digits ds => 0 :: putDigits ds
  | .plan p => 1 :: putNumber 2 p

/-- The contents of a gap entry, as R116 gives them (log 17). -/
def Gap.layout (now : Nat) (g : Gap) : List Byte :=
  g.key.layout ++ [g.origin.code] ++ putNumber 2 g.interval ++ putNumber 4 (remainingTo g.nextAdmit now) ++
    putRemaining now g.expiry ++ putNumber 4 g.admitted ++ putNumber 4 g.refused

/-- The kind of an advisory frame: 0x60 for priority 1 up to 0x6A (R181). -/
def Advisory.kind (a : Advisory) : Byte := BitVec.ofNat 8 (0x5F + a.priority)

/-- The fields of an advisory, as its owning rule lists them (R174). -/
def Advisory.layout : Advisory → List Byte
  | .timeout tag group circuit => putNumber 4 tag ++ putNumber 2 group ++ putNumber 2 circuit
  | .suspended group cause count => putNumber 2 group ++ [cause.code] ++ putNumber 1 count
  | .strain group level => putNumber 2 group ++ putNumber 1 level
  | .restored group level => putNumber 2 group ++ putNumber 1 level
  | .gapOn plan group interval mark => putNumber 2 plan ++ putNumber 2 group ++ putNumber 2 interval ++ [mark.code]
  | .gapOff plan group => putNumber 2 plan ++ putNumber 2 group
  | .closeHeld period uncollected trigger => putNumber 4 period ++ putNumber 1 uncollected ++ [trigger.code]
  | .closed period closeTime accounts mark trigger =>
    putNumber 4 period ++ putNumber 4 closeTime ++ putNumber 1 accounts ++ putFlag mark ++ [trigger.code]
  | .tariffOn index values clock trigger => putNumber 1 index ++ values.layout ++ putNumber 4 clock ++ [trigger.code]
  | .restarted calls gaps => putNumber 2 calls ++ putNumber 1 gaps
  | .ready cause => [cause.code]

/-- A whole frame on the line: start code, length, kind, number, body, check (R182). -/
def Frame.onLine (f : Frame) : List Byte :=
  let counted := putNumber 2 (f.body.length + 2) ++ f.kind :: f.number :: f.body
  0xC3 :: counted ++ putNumber 2 (frameCheck counted).toNat

end Sys2Proof.Machine
end

