-- ==== Sys2Proof/Machine/Engine.lean ====
section
/-! DEFINITION. The request engine and the reply queue (R172), and the handlers' common answers. -/

namespace Sys2Proof.Machine

/-- A block's answer to a request: the state it leaves, and the reply's result code with the fields of the result. -/
abbrev Answer := State × List Byte

/-- A refusal: no record changes, and the reply carries the result alone (spec/00_scope.md 4.3, R181). -/
def refuse (s : State) (r : Result) : Answer := (s, [r.code])

/-- A refusal whose reply carries fields that the owning rule names (R181). -/
def refuseWith (s : State) (r : Result) (fields : List Byte) : Answer := (s, r.code :: fields)

/-- A reply of result OK with its fields. -/
def accept (s : State) (fields : List Byte) : Answer := (s, Result.ok.code :: fields)

/-- The engine can take a frame: the part runs, no link reset is in progress, no RESTART is being served, and the reply queue has
room for one reply (R171, R172, R177, R180). -/
def Lif.engineReady (l : Lif) : Bool :=
  decide (l.phase = .running) && l.linkReset.isNone && l.serving.isNone && decide (l.replies.length < Config.replyCapacity)

/-- The engine takes this frame: it is the oldest of the request queue and the engine can take one. -/
def Lif.takes (l : Lif) (f : Frame) : Bool := l.engineReady && decide (l.requests.head? = some f)

/-- The frame leaves the request queue (R171). -/
def State.popRequest (s : State) : State := s.withLif (fun l => { l with requests := l.requests.tail })

/-- The kind of the reply to a kind: its top bit set (R172). -/
def replyKind (kind : Byte) : Byte := kind ||| 0x80

/-- The reply joins the tail of the reply queue. Its body begins with the summary byte, built now (R172, R175). -/
def State.reply (s : State) (kind number : Byte) (fields : List Byte) : State :=
  s.withLif (fun l =>
    { l with replies := l.replies ++ [{ kind := replyKind kind, number := number, body := s.summaryByte :: fields }] })

/-- The engine builds the reply to a block's answer, and the request is complete (R172). -/
def completed (kind number : Byte) (a : Answer) : State := a.1.reply kind number a.2

/-- Serving a request of a kind: the engine takes the frame from the queue, its block acts and answers, and the engine builds the
reply (R172). When the frame is not the engine's to take, nothing occurs (log 1). -/
def serve (kind number : Byte) (body : List Byte) (handle : List Byte → State → Answer) (s : State) :
    Host.Outcome State Fault Refusal :=
  if s.lif.takes { kind := kind, number := number, body := body } then
    .next (completed kind number (handle body s.popRequest))
  else .next s

/-- Serving a request whose handling reads records that the laws of R16, R77 and R126 keep together: none is a broken law. -/
def serveLaw (kind number : Byte) (body : List Byte) (handle : List Byte → State → Option Answer) (s : State) :
    Host.Outcome State Fault Refusal :=
  if s.lif.takes { kind := kind, number := number, body := body } then
    match handle body s.popRequest with
    | some a => .next (completed kind number a)
    | none => .fault .lawBroken
  else .next s

/-- An event whose handling reads records that the laws keep together. -/
def occurs (result : Option State) : Host.Outcome State Fault Refusal :=
  match result with
  | some s' => .next s'
  | none => .fault .lawBroken

/-- A request that needs one index of n bytes in a range, and a record behind it: BAD_LENGTH, BAD_INDEX and NOT_CONFIGURED in
that order (R11, R23, R24, R147, R148, R153, R163; log 9). -/
def withRecord {α : Type} (n limit : Nat) (find : Nat → Option α) (body : List Byte) (s : State)
    (act : Nat → α → Answer) : Answer :=
  match takeNumber n body with
  | none => refuse s .badLength
  | some (i, _) =>
    if limit ≤ i then refuse s .badIndex
    else
      match find i with
      | none => refuse s .notConfigured
      | some r => act i r

end Sys2Proof.Machine
end

