-- ==== Sys2Proof/Machine/Prefixes.lean ====
section
/-! DEFINITION. RSL's tables: the prefix table, route plans, sticky positions and digit treatment, with SET_PREFIX, DEL_PREFIX,
READ_PREFIX, SET_PLAN and READ_PLAN (chapter 1). -/

namespace Sys2Proof.Machine

/-! ### The prefix table -/

/-- Table order (R5): the smaller digit at the first difference, and the shorter string before a longer one it leads. -/
def digitsBefore : Digits → Digits → Bool
  | [], [] => false
  | [], _ :: _ => true
  | _ :: _, [] => false
  | a :: as, b :: bs => if a < b then true else if b < a then false else digitsBefore as bs

/-- Whether a digit string leads a called number (R2). -/
def leads (ds number : Digits) : Bool := ds.isPrefixOf number

/-- The entry with exactly a digit string (R4, R5). -/
def findEntry (ds : Digits) (t : List PrefixEntry) : Option PrefixEntry := t.find? (fun e => decide (e.digits = ds))

/-- Writes the entry with its digit string, in table order. -/
def putEntry (e : PrefixEntry) : List PrefixEntry → List PrefixEntry
  | [] => [e]
  | e' :: t =>
    if e.digits = e'.digits then e :: t
    else if digitsBefore e.digits e'.digits then e :: e' :: t
    else e' :: putEntry e t

/-- Removes the entry with a digit string (R4). -/
def eraseEntry (ds : Digits) (t : List PrefixEntry) : List PrefixEntry := t.filter (fun e => decide (e.digits ≠ ds))

/-- Longest-match lookup (R2): the longest entry that leads the called number. -/
def longestMatch (number : Digits) : List PrefixEntry → Option PrefixEntry
  | [] => none
  | e :: rest =>
    match longestMatch number rest with
    | none => if leads e.digits number then some e else none
    | some b => if leads e.digits number && decide (b.digits.length < e.digits.length) then some e else some b

/-- The first entry after a digit string in table order (R5). -/
def nextEntry (ds : Digits) (t : List PrefixEntry) : Option PrefixEntry := t.find? (fun e => digitsBefore ds e.digits)

/-- Reads the note of SET_PREFIX: a body that ends before it carries none (R3; log 10). -/
def takeNote (body : List Byte) : Option (Option Nat) :=
  match body with
  | [] => some none
  | _ :: _ => (takeOptional 2 body).map (·.1)

/-- The fields of SET_PREFIX (R3). -/
def readSetPrefix (body : List Byte) : Option (Digits × Nat × Option Nat) := do
  let (ds, body) ← takeDigits body
  let (plan, body) ← takeNumber 2 body
  let note ← takeNote body
  return (ds, plan, note)

/-- A digit string of a length in a range, each digit 0..9. -/
def digitsIn (low high : Nat) (ds : Digits) : Bool :=
  decide (low ≤ ds.length) && decide (ds.length ≤ high) && digitsDecimal ds

/-- SET_PREFIX (R3). -/
def handleSetPrefix (body : List Byte) (s : State) : Answer :=
  match readSetPrefix body with
  | none => refuse s .badLength
  | some (ds, plan, note) =>
    if !digitsIn 1 12 ds then refuse s .badValue
    else if Config.planCount ≤ plan then refuse s .badIndex
    else if (s.plan? plan).isNone then refuse s .notConfigured
    else if (findEntry ds s.rsl.prefixes).isNone && decide (Config.prefixCapacity ≤ s.rsl.prefixes.length) then
      refuse s .tableFull
    else
      accept (s.setPrefixes (putEntry { digits := ds, plan := plan, note := note } s.rsl.prefixes))
        (putOptional PrefixEntry.layout (findEntry ds s.rsl.prefixes))

/-- DEL_PREFIX (R4). -/
def handleDelPrefix (body : List Byte) (s : State) : Answer :=
  match takeDigits body with
  | none => refuse s .badLength
  | some (ds, _) =>
    if !digitsIn 1 12 ds then refuse s .badValue
    else
      match findEntry ds s.rsl.prefixes with
      | none => refuse s .notConfigured
      | some e => accept (s.setPrefixes (eraseEntry ds s.rsl.prefixes)) e.layout

/-- The entry that a form of READ_PREFIX asks for (R5), none for a form or a digit count out of range. -/
def readForm (form : Nat) (ds : Digits) (t : List PrefixEntry) : Option (Option PrefixEntry) :=
  if form = 0 then (if digitsIn 1 12 ds then some (findEntry ds t) else none)
  else if form = 1 then (if digitsIn 1 16 ds then some (longestMatch ds t) else none)
  else if form = 2 then (if digitsIn 0 12 ds then some (nextEntry ds t) else none)
  else none

/-- The fields of READ_PREFIX: a form and a digit string (R5). -/
def readReadPrefix (body : List Byte) : Option (Nat × Digits) := do
  let (form, body) ← takeNumber 1 body
  let (ds, _) ← takeDigits body
  return (form, ds)

/-- READ_PREFIX (R5). Every reply carries the number of entries (log 12). -/
def handleReadPrefix (body : List Byte) (s : State) : Answer :=
  let count := putNumber 2 s.rsl.prefixes.length
  match readReadPrefix body with
  | none => refuseWith s .badLength count
  | some (form, ds) =>
    match readForm form ds s.rsl.prefixes with
    | none => refuseWith s .badValue count
    | some none => refuseWith s .notConfigured count
    | some (some e) => accept s (count ++ putDigits e.digits ++ e.layout)

/-! ### Route plans -/

/-- The plan has a sticky position: STICKY with two choices or more (R7, R10). -/
def Plan.hasSticky (p : Plan) : Bool := decide (p.mode = .sticky) && decide (2 ≤ p.choices.length)

/-- Advancing the sticky position, when a failed call's position equals it (R10, R84, R87). -/
def Plan.advanceSticky (p : Plan) (position : Nat) : Plan :=
  if p.hasSticky && decide (p.stickyPosition = some position) then
    { p with stickyPosition := some (if position < p.choices.length then position + 1 else 2) }
  else p

/-- Setting the sticky position at a grant (R70): any alternate other than the stored one. -/
def Plan.grantSticky (p : Plan) (position : Nat) : Plan :=
  if p.hasSticky && decide (position ≠ 1) then { p with stickyPosition := some position } else p

/-- A failure or a seizure timeout at a plan's position reaches RSL (R84, R87). -/
def State.advanceSticky (s : State) (plan position : Nat) : State :=
  match s.plan? plan with
  | none => s
  | some p => s.putPlan plan (p.advanceSticky position)

/-- Some value stands at two positions. -/
def hasRepeat : List Nat → Bool
  | [] => false
  | a :: t => t.contains a || hasRepeat t

/-- The fields of SET_PLAN as sent (R8). -/
structure PlanFields where
  index : Nat
  choices : List Nat
  mode : Nat
  ceiling : Option Nat
  limit : Nat
  deriving DecidableEq, Repr

/-- Reads SET_PLAN (R8). -/
def readSetPlan (body : List Byte) : Option PlanFields := do
  let (index, body) ← takeNumber 2 body
  let (count, body) ← takeNumber 1 body
  let (choices, body) ← takeNumbers 2 count body
  let (mode, body) ← takeNumber 1 body
  let (ceiling, body) ← takeOptional 3 body
  let (limit, _) ← takeNumber 1 body
  return { index := index, choices := choices, mode := mode, ceiling := ceiling, limit := limit }

/-- The plan that an accepted SET_PLAN stores: ceiling and limit clamped, the sticky position at 2 or absent (R9). -/
def PlanFields.stored (f : PlanFields) (mode : PlanMode) : Plan where
  choices := f.choices
  mode := mode
  stickyPosition := if mode = .sticky ∧ 2 ≤ f.choices.length then some 2 else none
  ceiling := f.ceiling.map (fun c => max 1 c)
  crankbackLimit := min 5 f.limit

/-- SET_PLAN (R8, R9). -/
def handleSetPlan (body : List Byte) (s : State) : Answer :=
  match readSetPlan body with
  | none => refuse s .badLength
  | some f =>
    if Config.planCount ≤ f.index then refuse s .badIndex
    else if decide (f.choices.length = 0) || decide (6 < f.choices.length) then refuse s .badValue
    else if f.choices.any (fun g => decide (Config.groupCount ≤ g)) then refuse s .badIndex
    else if hasRepeat f.choices then refuse s .badValue
    else
      match planModeOf f.mode with
      | none => refuse s .badValue
      | some mode =>
        accept (s.putPlan f.index (f.stored mode))
          (putOptional Plan.layout (s.plan? f.index) ++ putOptional (putNumber 3) (f.stored mode).ceiling ++
            putNumber 1 (f.stored mode).crankbackLimit)

/-- READ_PLAN (R11). -/
def handleReadPlan (body : List Byte) (s : State) : Answer :=
  withRecord 2 Config.planCount s.plan? body s (fun _ p => accept s p.layout)

/-! ### Digit treatment -/

/-- Digit treatment (R14): delete d leading digits and place the insert string in front. -/
def GroupConfig.treat (c : GroupConfig) (number : Digits) : Digits := c.insertDigits ++ number.drop c.deleteCount

/-- An outgoing number of 1..20 digits is acceptable (R14, R65). -/
def acceptable (outgoing : Digits) : Bool := decide (1 ≤ outgoing.length) && decide (outgoing.length ≤ 20)

/-! ### The commands -/

/-- SET_PREFIX. -/
def execSetPrefix (number : Byte) (body : List Byte) (s : State) : Host.Outcome State Fault Refusal :=
  serve 0x01 number body handleSetPrefix s

/-- DEL_PREFIX. -/
def execDelPrefix (number : Byte) (body : List Byte) (s : State) : Host.Outcome State Fault Refusal :=
  serve 0x02 number body handleDelPrefix s

/-- SET_PLAN. -/
def execSetPlan (number : Byte) (body : List Byte) (s : State) : Host.Outcome State Fault Refusal :=
  serve 0x03 number body handleSetPlan s

/-- READ_PREFIX. -/
def execReadPrefix (number : Byte) (body : List Byte) (s : State) : Host.Outcome State Fault Refusal :=
  serve 0x41 number body handleReadPrefix s

/-- READ_PLAN. -/
def execReadPlan (number : Byte) (body : List Byte) (s : State) : Host.Outcome State Fault Refusal :=
  serve 0x42 number body handleReadPlan s

end Sys2Proof.Machine
end

