-- ==== Sys2Proof/Machine/Gaps.lean ====
section
/-! DEFINITION. GPC: the gap table, admission, automatic gaps, and SET_GAP, DEL_GAP, SET_AUTOGAP, READ_GAPS and
GAP_DURATION_EXPIRY (chapter 7). -/

namespace Sys2Proof.Machine

/-! ### The gap table -/

/-- The entry with a key, and its slot (R112). -/
def findGap (key : GapKey) (t : Table Gap) : Option (Nat × Gap) := t.find? (fun e => decide (e.2.key = key))

/-- The lowest free slot (R112). -/
def freeSlot (t : Table Gap) : Option Nat := (List.range Config.gapCapacity).find? (fun i => (t.get? i).isNone)

/-- The digits of a PREFIX key. -/
def GapKey.digits? : GapKey → Option Digits
  | .digits ds => some ds
  | .plan _ => none

/-- How many digits of a called number an entry's PREFIX key matches, none when it does not lead the number (R117). -/
def Gap.leadLength (number : Digits) (g : Gap) : Option Nat :=
  match g.key.digits? with
  | none => none
  | some ds => if leads ds number then some ds.length else none

/-- The longest PREFIX entry that leads a called number (R117). -/
def longestGap (number : Digits) : Table Gap → Option (Nat × Gap)
  | [] => none
  | (i, g) :: rest =>
    match g.leadLength number, longestGap number rest with
    | none, r => r
    | some _, none => some (i, g)
    | some n, some (j, h) => if (h.leadLength number).getD 0 < n then some (i, g) else some (j, h)

/-! ### Admission -/

/-- An entry applying refuses when its next-admit time lies ahead (R117). -/
def Gap.refuses (g : Gap) (now : Nat) : Bool := decide (now < g.nextAdmit)

/-- An entry that admitted: its slot is consumed (R117). -/
def Gap.admitted1 (g : Gap) (now : Nat) : Gap :=
  { g with nextAdmit := now + g.interval, admitted := satAdd Config.max32 g.admitted 1 }

/-- An entry that refused (R117). -/
def Gap.refused1 (g : Gap) : Gap := { g with refused := satAdd Config.max32 g.refused 1 }

/-- Whether the entry applying, if any, refuses. -/
def refusing (now : Nat) : Option (Nat × Gap) → Bool
  | none => false
  | some (_, g) => g.refuses now

/-- Counts a refusal at the entry applying. -/
def countRefusal : Option (Nat × Gap) → Table Gap → Table Gap
  | none, t => t
  | some (i, g), t => t.put i g.refused1

/-- Consumes the slot of the entry applying, if any. -/
def consumeSlot (now : Nat) : Option (Nat × Gap) → Table Gap → Table Gap
  | none, t => t
  | some (i, g), t => t.put i (g.admitted1 now)

/-- GPC's answer to RSL (R117): whether the call is let in, and the table it leaves. -/
def admission (now : Nat) (number : Digits) (plan : Nat) (t : Table Gap) : Bool × Table Gap :=
  if refusing now (longestGap number t) then (false, countRefusal (longestGap number t) t)
  else if refusing now (findGap (.plan plan) t) then (false, countRefusal (findGap (.plan plan) t) t)
  else (true, consumeSlot now (findGap (.plan plan) t) (consumeSlot now (longestGap number t) t))

/-! ### Automatic gaps -/

/-- A choice that cannot take the plan's traffic (R119): not configured, not IN_SERVICE, or at level 3. -/
def State.choiceShut (s : State) (g : Nat) : Bool :=
  match s.group? g with
  | none => true
  | some grp => decide (grp.service ≠ .inService) || decide (grp.level = 3)

/-- A plan qualifies when every choice is shut (R119). -/
def State.planQualifies (s : State) (p : Plan) : Bool := p.choices.all s.choiceShut

/-- A new AUTO entry (R119). -/
def autoEntry (plan interval now : Nat) : Gap :=
  { key := .plan plan, origin := .auto, interval := interval, nextAdmit := now, expiry := none, admitted := 0, refused := 0 }

/-- What an escalation report of a group does with one plan (R119, R120). -/
def State.gapPlan (g : Nat) (s : State) (e : Nat × Plan) : State :=
  if decide (e.2.choices.head? = some g) && s.planQualifies e.2 && (findGap (.plan e.1) s.gpc.gaps).isNone then
    match freeSlot s.gpc.gaps with
    | some slot =>
      (s.setGaps (s.gpc.gaps.put slot (autoEntry e.1 s.gpc.autoInterval s.now))).offer
        (.gapOn e.1 g s.gpc.autoInterval .placed)
    | none => s.offer (.gapOn e.1 g s.gpc.autoInterval .notPlaced)
  else s

/-- An escalation report of a group: the plans whose direct choice it is, in rising plan index (R119). -/
def State.escalationReport (s : State) (g : Nat) : State := s.rsl.plans.foldl (State.gapPlan g) s

/-- What a fall report of a group does with one plan (R121). -/
def State.ungapPlan (g : Nat) (s : State) (e : Nat × Plan) : State :=
  if e.2.choices.contains g then
    match findGap (.plan e.1) s.gpc.gaps with
    | some (slot, gap) =>
      if gap.origin = .auto then (s.setGaps (s.gpc.gaps.erase slot)).offer (.gapOff e.1 g) else s
    | none => s
  else s

/-- A fall report of a group: every AUTO entry on a plan that names it is removed, in rising plan index (R121). -/
def State.fallReport (s : State) (g : Nat) : State := s.rsl.plans.foldl (State.ungapPlan g) s

/-! ### The requests -/

/-- A gap key as sent: the kind may be none of the two (R113). -/
inductive RawKey where
  | digits (ds : Digits)
  | plan (index : Nat)
  | other
  deriving DecidableEq, Repr

/-- Reads a key kind and key; a kind that is neither announces no key (R113; log 19). -/
def takeGapKey (body : List Byte) : Option (RawKey × List Byte) := do
  let (kind, body) ← takeNumber 1 body
  if kind = 0 then
    let (ds, body) ← takeDigits body
    return (.digits ds, body)
  else if kind = 1 then
    let (p, body) ← takeNumber 2 body
    return (.plan p, body)
  else return (.other, body)

/-- Check 2 of R113 on a key. -/
def RawKey.badValue : RawKey → Bool
  | .digits ds => !digitsIn 1 12 ds
  | .plan _ => false
  | .other => true

/-- Check 3 of R113 on a key. -/
def RawKey.badIndex : RawKey → Bool
  | .digits _ => false
  | .plan p => decide (Config.planCount ≤ p)
  | .other => false

/-- Check 4 of R113 on a key. -/
def RawKey.missing (s : State) : RawKey → Bool
  | .digits _ => false
  | .plan p => (s.plan? p).isNone
  | .other => false

/-- The key of the table (R112). -/
def RawKey.key : RawKey → GapKey
  | .digits ds => .digits ds
  | .plan p => .plan p
  | .other => .digits []

/-- The fields of SET_GAP as sent; the duration is read when the flag is 1 (R113). -/
structure GapFields where
  key : RawKey
  interval : Nat
  flag : Nat
  duration : Option Nat
  deriving DecidableEq, Repr

/-- Reads SET_GAP (R113). -/
def readSetGap (body : List Byte) : Option GapFields := do
  let (key, body) ← takeGapKey body
  let (interval, body) ← takeNumber 2 body
  let (flag, body) ← takeNumber 1 body
  if flag = 1 then
    let (d, _) ← takeNumber 3 body
    return { key := key, interval := interval, flag := flag, duration := some d }
  else return { key := key, interval := interval, flag := flag, duration := none }

/-- The entry an accepted SET_GAP leaves (R113). -/
def GapFields.stored (f : GapFields) (now : Nat) : Gap :=
  { key := f.key.key, origin := .manual, interval := clamp 100 60000 f.interval, nextAdmit := now,
    expiry := f.duration.map (fun d => now + msOfSeconds (clamp 1 86400 d)), admitted := 0, refused := 0 }

/-- The reply fields of SET_GAP (R113; log 17). -/
def GapFields.replyFields (f : GapFields) (slot : Nat) (previous : Option Gap) (now : Nat) : List Byte :=
  putNumber 1 slot ++ putOptional (Gap.layout now) previous ++ putNumber 2 (clamp 100 60000 f.interval) ++
    putOptional (putNumber 3) (f.duration.map (clamp 1 86400))

/-- SET_GAP (R113): an entry with the key is replaced in its slot, a new one takes the lowest free slot. -/
def handleSetGap (body : List Byte) (s : State) : Answer :=
  match readSetGap body with
  | none => refuse s .badLength
  | some f =>
    if f.key.badValue || decide (1 < f.flag) then refuse s .badValue
    else if f.key.badIndex then refuse s .badIndex
    else if f.key.missing s then refuse s .notConfigured
    else
      match findGap f.key.key s.gpc.gaps with
      | some (slot, old) =>
        accept (s.setGaps (s.gpc.gaps.put slot (f.stored s.now))) (f.replyFields slot (some old) s.now)
      | none =>
        match freeSlot s.gpc.gaps with
        | some slot => accept (s.setGaps (s.gpc.gaps.put slot (f.stored s.now))) (f.replyFields slot none s.now)
        | none => refuse s .tableFull

/-- DEL_GAP (R115). -/
def handleDelGap (body : List Byte) (s : State) : Answer :=
  match takeGapKey body with
  | none => refuse s .badLength
  | some (key, _) =>
    if key.badValue then refuse s .badValue
    else if key.badIndex then refuse s .badIndex
    else
      match findGap key.key s.gpc.gaps with
      | none => refuse s .notConfigured
      | some (slot, g) => accept (s.setGaps (s.gpc.gaps.erase slot)) (putNumber 1 slot ++ g.layout s.now)

/-- SET_AUTOGAP (R118). -/
def handleSetAutogap (body : List Byte) (s : State) : Answer :=
  match takeNumber 2 body with
  | none => refuse s .badLength
  | some (v, _) =>
    accept { s with gpc := { s.gpc with autoInterval := clamp 100 60000 v } }
      (putNumber 2 s.gpc.autoInterval ++ putNumber 2 (clamp 100 60000 v))

/-- The entries of READ_GAPS at or above a slot (R116). -/
def gapsFrom (first : Nat) (t : Table Gap) : Table Gap := t.filter (fun e => decide (first ≤ e.1))

/-- The slot following the last entry returned, or the END mark (R116, R182). -/
def followingSlot (t : Table Gap) : Nat :=
  if 16 < t.length then
    match (t.take 16).getLast? with
    | some e => e.1 + 1
    | none => 0xFF
  else 0xFF

/-- READ_GAPS (R116). -/
def handleReadGaps (body : List Byte) (s : State) : Answer :=
  match takeNumber 1 body with
  | none => refuse s .badLength
  | some (first, _) =>
    if Config.gapCapacity ≤ first then refuse s .badIndex
    else
      accept s
        (putNumber 1 s.gpc.gaps.length ++
          putNumber 1 (s.gpc.gaps.filter (fun e => decide (e.2.origin = .auto))).length ++
          putNumber 2 s.gpc.autoInterval ++
          putList (fun e => putNumber 1 e.1 ++ e.2.layout s.now) ((gapsFrom first s.gpc.gaps).take 16) ++
          putNumber 1 (followingSlot (gapsFrom first s.gpc.gaps)))

/-! ### The commands -/

/-- SET_GAP. -/
def execSetGap (number : Byte) (body : List Byte) (s : State) : Host.Outcome State Fault Refusal :=
  serve 0x0B number body handleSetGap s

/-- DEL_GAP. -/
def execDelGap (number : Byte) (body : List Byte) (s : State) : Host.Outcome State Fault Refusal :=
  serve 0x0C number body handleDelGap s

/-- SET_AUTOGAP. -/
def execSetAutogap (number : Byte) (body : List Byte) (s : State) : Host.Outcome State Fault Refusal :=
  serve 0x0D number body handleSetAutogap s

/-- READ_GAPS. -/
def execReadGaps (number : Byte) (body : List Byte) (s : State) : Host.Outcome State Fault Refusal :=
  serve 0x48 number body handleReadGaps s

/-- GAP_DURATION_EXPIRY (R114): the entry whose duration has run out is removed. -/
def execGapDurationExpiry (slot : Nat) (s : State) : Host.Outcome State Fault Refusal :=
  match s.gpc.gaps.get? slot with
  | none => .next s
  | some g => if Timer.due g.expiry s.now then .next (s.setGaps (s.gpc.gaps.erase slot)) else .next s

end Sys2Proof.Machine
end

