-- ==== Sys2Proof/Machine/Strain.lean ====
section
/-! DEFINITION. TGM's strain measurement: the raise test, the window, the escalation timer, and WINDOW_EXPIRY and ESCALATION_EXPIRY
(chapter 3). -/

namespace Sys2Proof.Machine

/-! ### Circuits of a group -/

/-- How many circuits of a group stand in a state (R18, R24). -/
def State.countCircuits (s : State) (g : Nat) (p : CircuitState → Bool) : Nat :=
  (s.tgm.circuits.filter (fun e => decide (e.2.owner = g) && p e.2.state)).length

/-- IDLE. -/
def CircuitState.isIdle : CircuitState → Bool
  | .idle => true
  | _ => false

/-- GUARD. -/
def CircuitState.isGuard : CircuitState → Bool
  | .guarding _ => true
  | _ => false

/-- BUSY. -/
def CircuitState.isBusy : CircuitState → Bool
  | .busy _ => true
  | _ => false

/-- BLOCKED. -/
def CircuitState.isBlocked : CircuitState → Bool
  | .blocked => true
  | _ => false

/-- The number of a group's circuits in BUSY (R26, R43). -/
def State.busyCount (s : State) (g : Nat) : Nat := s.countCircuits g CircuitState.isBusy

/-- The number of a group's circuits in IDLE (R18). -/
def State.idleCircuitCount (s : State) (g : Nat) : Nat := s.countCircuits g CircuitState.isIdle

/-! ### The level -/

/-- A level raised by the raise test; an entry to level 3 starts the escalation timer (R41, R51). -/
def Group.raisedTo (grp : Group) (level now : Nat) : Group :=
  { grp with
    level := level,
    escalationTimer := if level = 3 then some (now + msOfSeconds grp.config.te) else grp.escalationTimer }

/-- The level the raise test yields: the larger of the present level and f of the idle count (R41). -/
def Group.testedLevel (grp : Group) : Nat := max grp.level (grp.config.raiseLevel grp.idleCount)

/-- The raise test of a group (R41), with its STRAIN advisory (R49). -/
def State.raiseTest (s : State) (g : Nat) : State :=
  match s.group? g with
  | none => s
  | some grp =>
    if grp.testedLevel = grp.level then s
    else (s.putGroup g (grp.raisedTo grp.testedLevel s.now)).offer (.strain g grp.testedLevel)

/-- The idle count falls by one, and the window's minimum follows it (R26, R44). -/
def Group.loseIdle (grp : Group) : Group :=
  { grp with
    idleCount := grp.idleCount - 1,
    window := { grp.window with minIdle := min grp.window.minIdle (grp.idleCount - 1) } }

/-- The idle count rises by one; no counter changes (R26, R44). -/
def Group.gainIdle (grp : Group) : Group := { grp with idleCount := grp.idleCount + 1 }

/-- A seizure is counted, and the maximum busy count follows the BUSY circuits (R28, R44). -/
def Group.countSeizure (grp : Group) (busy : Nat) : Group :=
  { grp with
    window :=
      { grp.window with
        seizures := satAdd Config.max32 grp.window.seizures 1, maxBusy := max grp.window.maxBusy busy } }

/-- An overflow is counted (R44, R66). -/
def Group.countOverflow (grp : Group) : Group :=
  { grp with window := { grp.window with overflows := satAdd Config.max32 grp.window.overflows 1 } }

/-- An answer is counted (R44). -/
def Group.countAnswer (grp : Group) : Group :=
  { grp with window := { grp.window with answers := satAdd Config.max32 grp.window.answers 1 } }

/-! ### The window -/

/-- The window begins: the counters start, and the timer starts with W or stops (R43, R46, R47, R56). -/
def Group.beginWindow (grp : Group) (busy now : Nat) : Group :=
  { grp with
    window := { seizures := 0, overflows := 0, answers := 0, minIdle := grp.idleCount, maxBusy := busy },
    windowTimer := if grp.config.windowLength = 0 then none else some (now + msOfSeconds grp.config.windowLength) }

/-- The level after the fall test, with the escalation timer stopped when it leaves 3 (R45, R51). -/
def Group.afterFallTest (grp : Group) : Group :=
  if grp.falls then
    { grp with
      level := grp.level - 1, escalationTimer := if grp.level = 3 then none else grp.escalationTimer }
  else grp

/-- The record of the window that ends (R46). -/
def Group.recordWindow (grp : Group) (clock : Nat) : Group :=
  { grp with lastWindow := some { counters := grp.window, endTime := clock } }

/-- A change of level to 1 or 0 from a higher level, on an IN_SERVICE group, is reported to GPC (R52). -/
def Group.fallReported (before after : Group) : Bool :=
  decide (after.level < before.level) && decide (after.level ≤ 1) && decide (after.service = .inService)

/-- What a lowered or raised level of a group queues and reports (R49, R52). -/
def State.levelChanged (s : State) (g : Nat) (before after : Group) : State :=
  if after.level = before.level then s
  else
    if before.fallReported after then (s.offer (.strain g after.level)).fallReport g
    else s.offer (.strain g after.level)

/-- The expiry of a group's window timer: fall test, record, reload (R45, R46). -/
def State.windowEnds (s : State) (g : Nat) (grp : Group) : State :=
  (s.putGroup g ((grp.afterFallTest.recordWindow s.tmb.clock).beginWindow (s.busyCount g) s.now)).levelChanged g grp
    grp.afterFallTest

/-- WINDOW_EXPIRY (R45, R46). -/
def execWindowExpiry (g : Nat) (s : State) : Host.Outcome State Fault Refusal :=
  match s.group? g with
  | none => .next s
  | some grp => if Timer.due grp.windowTimer s.now then .next (s.windowEnds g grp) else .next s

/-- ESCALATION_EXPIRY (R51): the timer stands stopped, and GPC is told (R119). -/
def execEscalationExpiry (g : Nat) (s : State) : Host.Outcome State Fault Refusal :=
  match s.group? g with
  | none => .next s
  | some grp =>
    if Timer.due grp.escalationTimer s.now then
      .next ((s.putGroup g { grp with escalationTimer := none }).escalationReport g)
    else .next s

end Sys2Proof.Machine
end

