-- ==== Sys2Proof/Machine/Groups.lean ====
section
/-! DEFINITION. TGM: group and circuit records, with SET_GROUP, DEL_GROUP, READ_GROUP, SERVICE, BLOCK, UNBLOCK, READ_CIRCUIT and
GUARD_EXPIRY (chapter 2). -/

namespace Sys2Proof.Machine

/-! ### Writing a group -/

/-- The fields of SET_GROUP as sent: the group index and the configured fields, hunt order and digits not yet checked (R19). -/
structure GroupFields where
  index : Nat
  huntByte : Nat
  config : GroupConfig
  deriving DecidableEq, Repr

/-- Reads SET_GROUP: the group index and every configured field in the order of R17 (R19, R182). -/
def readSetGroup (body : List Byte) : Option GroupFields := do
  let (index, body) ← takeNumber 2 body
  let (carrier, body) ← takeNumber 1 body
  let (tariffClass, body) ← takeNumber 1 body
  let (firstCircuit, body) ← takeNumber 2 body
  let (circuitCount, body) ← takeNumber 2 body
  let (huntByte, body) ← takeNumber 1 body
  let (reservation, body) ← takeNumber 1 body
  let (i1, body) ← takeNumber 2 body
  let (i2, body) ← takeNumber 2 body
  let (i3, body) ← takeNumber 2 body
  let (hysteresis, body) ← takeNumber 1 body
  let (windowLength, body) ← takeNumber 2 body
  let (m0, body) ← takeNumber 1 body
  let (m1, body) ← takeNumber 1 body
  let (m2, body) ← takeNumber 1 body
  let (m3, body) ← takeNumber 1 body
  let (seizureTime, body) ← takeNumber 2 body
  let (guardTime, body) ← takeNumber 2 body
  let (suspensionCount, body) ← takeNumber 1 body
  let (ts, body) ← takeNumber 2 body
  let (tq, body) ← takeNumber 1 body
  let (tw, body) ← takeNumber 2 body
  let (te, body) ← takeNumber 2 body
  let (deleteCount, body) ← takeNumber 1 body
  let (insertDigits, _) ← takeDigits body
  return {
    index := index, huntByte := huntByte,
    config := {
      carrier := carrier, tariffClass := tariffClass, firstCircuit := firstCircuit, circuitCount := circuitCount,
      hunt := (huntOrderOf huntByte).getD .ascending, reservation := reservation, i1 := i1, i2 := i2, i3 := i3,
      hysteresis := hysteresis, windowLength := windowLength, m0 := m0, m1 := m1, m2 := m2, m3 := m3,
      seizureTime := seizureTime, guardTime := guardTime, suspensionCount := suspensionCount, ts := ts, tq := tq, tw := tw,
      te := te, deleteCount := deleteCount, insertDigits := insertDigits } }

/-- The clamps of R20. -/
def GroupConfig.clamped (c : GroupConfig) : GroupConfig :=
  { c with
    reservation := min 63 c.reservation,
    hysteresis := min 63 c.hysteresis,
    i1 := min 480 c.i1,
    i2 := min (min 480 c.i1) (min 480 c.i2),
    i3 := min (min (min 480 c.i1) (min 480 c.i2)) (min 480 c.i3),
    windowLength := min 3600 c.windowLength,
    seizureTime := clamp 1000 60000 c.seizureTime,
    guardTime := min 2000 c.guardTime,
    suspensionCount := clamp 1 15 c.suspensionCount,
    ts := clamp 1 600 c.ts,
    te := clamp 1 600 c.te,
    tq := clamp 1 60 c.tq,
    tw := max (clamp 1 60 c.tq + 1) (clamp 10 3600 c.tw) }

/-- The last circuit of a group's range (R17, R21). -/
def GroupConfig.lastCircuit (c : GroupConfig) : Nat := c.firstCircuit + c.circuitCount - 1

/-- A circuit lies in a group's range (R17). -/
def GroupConfig.inRange (c : GroupConfig) (circuit : Nat) : Bool :=
  decide (c.firstCircuit ≤ circuit) && decide (circuit < c.firstCircuit + c.circuitCount)

/-- Two ranges share a circuit: the later of their firsts lies below the earlier of their ends (R19 check 7). -/
def GroupConfig.overlaps (a b : GroupConfig) : Bool :=
  decide (max a.firstCircuit b.firstCircuit < min (a.firstCircuit + a.circuitCount) (b.firstCircuit + b.circuitCount))

/-- The range or the fields that a live call relies on differ (R19 check 8). -/
def GroupConfig.movesRange (old new : GroupConfig) : Bool :=
  decide (old.firstCircuit ≠ new.firstCircuit) || decide (old.circuitCount ≠ new.circuitCount)

/-- A circuit of the group is BUSY or GUARD (R19 check 8, R23). -/
def State.groupInUse (s : State) (g : Nat) : Bool :=
  s.tgm.circuits.any (fun e => decide (e.2.owner = g) && (e.2.state.isBusy || e.2.state.isGuard))

/-- The first result of R19 whose condition holds, after the length (check 1). -/
def State.checkGroup (s : State) (f : GroupFields) : Option Result :=
  if Config.groupCount ≤ f.index then some .badIndex
  else if decide (Config.carrierCount ≤ f.config.carrier) || decide (Config.classCount ≤ f.config.tariffClass) ||
      decide (Config.circuitCount ≤ f.config.firstCircuit) then some .badIndex
  else if decide (f.config.circuitCount = 0) || decide (480 < f.config.circuitCount) || (huntOrderOf f.huntByte).isNone ||
      decide (15 < f.config.deleteCount) || !digitsIn 0 8 f.config.insertDigits then some .badValue
  else if Config.circuitCount ≤ f.config.lastCircuit then some .badIndex
  else if (s.account? f.config.carrier).isNone || (s.tariff? f.config.tariffClass).isNone then some .notConfigured
  else if s.tgm.groups.any (fun e => decide (e.1 ≠ f.index) && e.2.config.overlaps f.config) then some .overlap
  else
    match s.group? f.index with
    | none => none
    | some old =>
      if (decide (old.config.carrier ≠ f.config.carrier) || decide (old.config.tariffClass ≠ f.config.tariffClass) ||
          old.config.movesRange f.config) && s.groupInUse f.index then some .inUse
      else none

/-- A circuit that a group takes: IDLE with block-pending clear (R21, R22). -/
def freshCircuit (g : Nat) : Circuit := { owner := g, state := .idle, blockPending := false }

/-- The group takes every circuit of a range that it does not own (R21, R22). -/
def claimRange (g : Nat) (c : GroupConfig) (t : Table Circuit) : Table Circuit :=
  (List.range' c.firstCircuit c.circuitCount).foldl
    (fun t i => if decide ((Table.get? t i).map (·.owner) = some g) then t else Table.put t i (freshCircuit g)) t

/-- The group loses its circuits outside a range (R22). -/
def dropOutside (g : Nat) (c : GroupConfig) (t : Table Circuit) : Table Circuit :=
  t.filter (fun e => decide (e.2.owner ≠ g) || c.inRange e.1)

/-- A created group (R21), before its raise test. -/
def newGroup (c : GroupConfig) (now : Nat) : Group :=
  Group.beginWindow
    { config := c, service := .inService, level := 0, idleCount := c.circuitCount, faultCount := 0, probe := none,
      rotatePosition := c.lastCircuit,
      window := { seizures := 0, overflows := 0, answers := 0, minIdle := 0, maxBusy := 0 },
      lastWindow := none, windowTimer := none, escalationTimer := none, tsTimer := none, tqTimer := none, twTimer := none }
    0 now

/-- The circuits of every other owner (R21, R23). -/
def dropOwned (g : Nat) (t : Table Circuit) : Table Circuit := t.filter (fun e => decide (e.2.owner ≠ g))

/-- An accepted SET_GROUP for a group that is not configured (R21). -/
def State.createGroup (s : State) (g : Nat) (c : GroupConfig) : State :=
  ((s.setCircuits (claimRange g c (dropOwned g s.tgm.circuits))).putGroup g (newGroup c s.now)).raiseTest g

/-- The circuits after an accepted SET_GROUP moves or keeps a group's range (R22). -/
def State.moveRange (s : State) (g : Nat) (old new : GroupConfig) : State :=
  if old.movesRange new then s.setCircuits (claimRange g new (dropOutside g new s.tgm.circuits)) else s

/-- A configured group with its new fields; a moved range recounts the idle count and sets the rotate position (R22). -/
def Group.rewritten (grp : Group) (c : GroupConfig) (idle : Nat) : Group :=
  if grp.config.movesRange c then
    { grp with
      config := c, idleCount := idle, rotatePosition := c.lastCircuit,
      window := { grp.window with minIdle := min grp.window.minIdle idle } }
  else { grp with config := c }

/-- The window restarts in the group at an index (R47). -/
def State.restartWindow (s : State) (g : Nat) : State :=
  s.modifyGroup g (fun grp => grp.beginWindow (s.busyCount g) s.now)

/-- An accepted SET_GROUP for a configured group: store, raise test, window restart (R22, R42, R47). -/
def State.rewriteGroup (s : State) (g : Nat) (grp : Group) (c : GroupConfig) : State :=
  let moved := s.moveRange g grp.config c
  ((moved.putGroup g (grp.rewritten c (moved.idleCircuitCount g))).raiseTest g).restartWindow g

/-- SET_GROUP (R19 to R22). -/
def handleSetGroup (body : List Byte) (s : State) : Answer :=
  match readSetGroup body with
  | none => refuse s .badLength
  | some f =>
    match s.checkGroup f with
    | some r => refuse s r
    | none =>
      match s.group? f.index with
      | none => accept (s.createGroup f.index f.config.clamped) (putOptional GroupConfig.layout none ++ f.config.clamped.layout)
      | some grp =>
        accept (s.rewriteGroup f.index grp f.config.clamped)
          (putOptional GroupConfig.layout (some grp.config) ++ f.config.clamped.layout)

/-! ### Deleting and reading a group -/

/-- The group and its circuits are gone (R23). -/
def State.deleteGroup (s : State) (g : Nat) : State :=
  (s.setCircuits (dropOwned g s.tgm.circuits)).eraseGroup g

/-- DEL_GROUP (R23). -/
def handleDelGroup (body : List Byte) (s : State) : Answer :=
  withRecord 2 Config.groupCount s.group? body s (fun g grp =>
    if s.groupInUse g then refuse s .inUse else accept (s.deleteGroup g) grp.config.layout)

/-- The running fields of R18 but for the timers and the last-window record, which R24 lists after the counts (log 13). -/
def Group.runningLayout (grp : Group) : List Byte :=
  [grp.service.code] ++ putNumber 1 grp.level ++ putNumber 2 grp.idleCount ++ putNumber 1 grp.faultCount ++
    putOptional (putNumber 4) grp.probe ++ putNumber 2 grp.rotatePosition ++ grp.window.layout

/-- The number of a group's circuits with block-pending set (R24). -/
def State.pendingBlocks (s : State) (g : Nat) : Nat :=
  (s.tgm.circuits.filter (fun e => decide (e.2.owner = g) && e.2.blockPending)).length

/-- The circuit counts of READ_GROUP (R24). -/
def State.circuitCounts (s : State) (g : Nat) : List Byte :=
  putNumber 2 (s.countCircuits g CircuitState.isIdle) ++ putNumber 2 (s.countCircuits g CircuitState.isGuard) ++
    putNumber 2 (s.countCircuits g CircuitState.isBusy) ++ putNumber 2 (s.countCircuits g CircuitState.isBlocked) ++
    putNumber 2 (s.pendingBlocks g)

/-- The five timers of READ_GROUP: window, escalation, Ts, Tq, Tw (R18, R24). -/
def Group.timersLayout (grp : Group) (now : Nat) : List Byte :=
  putRemaining now grp.windowTimer ++ putRemaining now grp.escalationTimer ++ putRemaining now grp.tsTimer ++
    putRemaining now grp.tqTimer ++ putRemaining now grp.twTimer

/-- READ_GROUP (R24, R48; log 13). -/
def handleReadGroup (body : List Byte) (s : State) : Answer :=
  withRecord 2 Config.groupCount s.group? body s (fun g grp =>
    accept s (grp.config.layout ++ grp.runningLayout ++ s.circuitCounts g ++ grp.timersLayout s.now ++
      putOptional LastWindow.layout grp.lastWindow))

/-! ### Service -/

/-- A group under the host's override: the trial ends, the fault count and the probe are cleared (R34). -/
def Group.serviced (grp : Group) (target : ServiceState) : Group :=
  { grp with
    service := target, faultCount := 0, probe := none, tsTimer := none, tqTimer := none, twTimer := none }

/-- The probe flag of a group's probe call is cleared; the call lives on as an ordinary call (R34, R102). -/
def State.releaseProbeOf (s : State) (grp : Group) : State :=
  match grp.probe with
  | none => s
  | some tag => s.modifyCall tag (fun c => { c with probe := false })

/-- The fields of SERVICE (R34). -/
def readService (body : List Byte) : Option (Nat × Nat) := do
  let (g, body) ← takeNumber 2 body
  let (target, _) ← takeNumber 1 body
  return (g, target)

/-- SERVICE (R34; the order of its checks, log 20). -/
def handleService (body : List Byte) (s : State) : Answer :=
  match readService body with
  | none => refuse s .badLength
  | some (g, target) =>
    if Config.groupCount ≤ g then refuse s .badIndex
    else
      match s.group? g with
      | none => refuse s .notConfigured
      | some grp =>
        match serviceTargetOf target with
        | none => refuse s .badValue
        | some t => accept ((s.putGroup g (grp.serviced t)).releaseProbeOf grp) [grp.service.code]

/-! ### Circuits -/

/-- The guard of a circuit ends: BLOCKED with block-pending set, otherwise IDLE (R29, R30). -/
def State.endGuard (s : State) (c : Nat) (circ : Circuit) : State :=
  if circ.blockPending then s.putCircuit c { circ with state := .blocked, blockPending := false }
  else (s.putCircuit c { circ with state := .idle }).modifyGroup circ.owner Group.gainIdle

/-- A BUSY circuit is released by its group's guard time (R29). None when the circuit is not BUSY or has no configured owner. -/
def State.release (s : State) (c : Nat) : Option State := do
  let circ ← s.circuit? c
  let grp ← s.group? circ.owner
  if circ.state.isBusy then
    if grp.config.guardTime = 0 then return s.endGuard c circ
    else return s.putCircuit c { circ with state := .guarding (s.now + grp.config.guardTime) }
  else none

/-- What BLOCK does by the circuit's state (R31). -/
def State.blockCircuit (s : State) (c : Nat) (circ : Circuit) : State :=
  match circ.state with
  | .idle => ((s.putCircuit c { circ with state := .blocked }).modifyGroup circ.owner Group.loseIdle).raiseTest circ.owner
  | .busy _ => s.putCircuit c { circ with blockPending := true }
  | .guarding _ => s.putCircuit c { circ with blockPending := true }
  | .blocked => s

/-- What UNBLOCK does by the circuit's state (R32). -/
def State.unblockCircuit (s : State) (c : Nat) (circ : Circuit) : State :=
  match circ.state with
  | .blocked =>
    (s.putCircuit c { circ with state := .idle, blockPending := false }).modifyGroup circ.owner Group.gainIdle
  | .idle => s.putCircuit c { circ with blockPending := false }
  | .busy _ => s.putCircuit c { circ with blockPending := false }
  | .guarding _ => s.putCircuit c { circ with blockPending := false }

/-- The state and block-pending of a circuit, as BLOCK and UNBLOCK reply (R31, R32). -/
def Circuit.standing (circ : Circuit) : List Byte := circ.state.code :: putFlag circ.blockPending

/-- The standing of a circuit after a request. -/
def State.circuitStanding (s : State) (c : Nat) : List Byte :=
  match s.circuit? c with
  | none => []
  | some circ => circ.standing

/-- BLOCK (R31). -/
def handleBlock (body : List Byte) (s : State) : Answer :=
  withRecord 2 Config.circuitCount s.circuit? body s (fun c circ =>
    accept (s.blockCircuit c circ) ((s.blockCircuit c circ).circuitStanding c))

/-- UNBLOCK (R32). -/
def handleUnblock (body : List Byte) (s : State) : Answer :=
  withRecord 2 Config.circuitCount s.circuit? body s (fun c circ =>
    accept (s.unblockCircuit c circ) ((s.unblockCircuit c circ).circuitStanding c))

/-- The tag of a BUSY circuit (R25). -/
def CircuitState.tag? : CircuitState → Option Nat
  | .busy tag => some tag
  | _ => none

/-- The guard expiry of a circuit in GUARD (R25). -/
def CircuitState.expiry? : CircuitState → Option Nat
  | .guarding e => some e
  | _ => none

/-- The circuit record of READ_CIRCUIT; an ownerless circuit is IDLE with nothing else (R25, R33). -/
def circuitLayout (now : Nat) : Option Circuit → List Byte
  | none => putOptional (putNumber 2) none ++ [CircuitState.idle.code] ++ putFlag false ++ [0] ++ [0]
  | some circ =>
    putOptional (putNumber 2) (some circ.owner) ++ [circ.state.code] ++ putFlag circ.blockPending ++
      putOptional (putNumber 4) circ.state.tag? ++
      putOptional (fun e => putNumber 4 (remainingTo e now)) circ.state.expiry?

/-- READ_CIRCUIT (R33). -/
def handleReadCircuit (body : List Byte) (s : State) : Answer :=
  match takeNumber 2 body with
  | none => refuse s .badLength
  | some (c, _) =>
    if Config.circuitCount ≤ c then refuse s .badIndex else accept s (circuitLayout s.now (s.circuit? c))

/-! ### The commands -/

/-- SET_GROUP. -/
def execSetGroup (number : Byte) (body : List Byte) (s : State) : Host.Outcome State Fault Refusal :=
  serve 0x04 number body handleSetGroup s

/-- DEL_GROUP. -/
def execDelGroup (number : Byte) (body : List Byte) (s : State) : Host.Outcome State Fault Refusal :=
  serve 0x05 number body handleDelGroup s

/-- SERVICE. -/
def execService (number : Byte) (body : List Byte) (s : State) : Host.Outcome State Fault Refusal :=
  serve 0x30 number body handleService s

/-- BLOCK. -/
def execBlock (number : Byte) (body : List Byte) (s : State) : Host.Outcome State Fault Refusal :=
  serve 0x31 number body handleBlock s

/-- UNBLOCK. -/
def execUnblock (number : Byte) (body : List Byte) (s : State) : Host.Outcome State Fault Refusal :=
  serve 0x32 number body handleUnblock s

/-- READ_GROUP. -/
def execReadGroup (number : Byte) (body : List Byte) (s : State) : Host.Outcome State Fault Refusal :=
  serve 0x43 number body handleReadGroup s

/-- READ_CIRCUIT. -/
def execReadCircuit (number : Byte) (body : List Byte) (s : State) : Host.Outcome State Fault Refusal :=
  serve 0x44 number body handleReadCircuit s

/-- GUARD_EXPIRY (R30): the guard of a circuit in GUARD whose time has come ends. -/
def execGuardExpiry (c : Nat) (s : State) : Host.Outcome State Fault Refusal :=
  match s.circuit? c with
  | none => .next s
  | some circ => if Timer.due circ.state.expiry? s.now then .next (s.endGuard c circ) else .next s

end Sys2Proof.Machine
end

