-- ==== Sys2Proof/Machine/Restoral.lean ====
section
/-! DEFINITION. TGM's evidence, fault count, suspension and restoral, with TS_EXPIRY, TQ_EXPIRY and TW_EXPIRY (R35, R36, R82 and
chapter 6). -/

namespace Sys2Proof.Machine

/-- The events of a live call that CTB reports to the group of its circuit (R82). -/
inductive CallEvent where
  | progress
  | answer
  | farBusy
  | farCongestion
  | circuitFault
  | supervision
  | clear
  deriving DecidableEq, Repr

/-- What a report is to restoral (R103). -/
inductive Evidence where
  | success
  | failure
  | neither
  deriving DecidableEq, Repr

/-- The class of a report (R103). -/
def CallEvent.evidence (ev : CallEvent) (isProbe : Bool) : Evidence :=
  match ev with
  | .progress => if isProbe then .success else .neither
  | .answer => if isProbe then .success else .neither
  | .farBusy => if isProbe then .success else .neither
  | .farCongestion => .neither
  | .circuitFault => .failure
  | .supervision => .failure
  | .clear => .neither

/-- What a report does to the consecutive fault count (R35). -/
inductive FaultEffect where
  | rise
  | reset
  | keep
  deriving DecidableEq, Repr

/-- The effect of a report on the consecutive fault count (R35). -/
def CallEvent.faultEffect : CallEvent → FaultEffect
  | .progress => .reset
  | .answer => .reset
  | .farBusy => .reset
  | .farCongestion => .keep
  | .circuitFault => .rise
  | .supervision => .rise
  | .clear => .keep

/-- A group entering SUSPENDED: the count is set to 0 and Ts starts (R36, R108). -/
def Group.suspendedAt (grp : Group) (now : Nat) : Group :=
  { grp with service := .suspended, faultCount := 0, tsTimer := some (now + msOfSeconds grp.config.ts) }

/-- The fault count after a rise, saturating at 255 (R35). -/
def Group.risenFaults (grp : Group) : Nat := satAdd 255 grp.faultCount 1

/-- A rise that leaves the count at K or above suspends an IN_SERVICE group (R36). -/
def Group.faultsSuspend (grp : Group) : Bool :=
  decide (grp.service = .inService) && decide (grp.config.suspensionCount ≤ grp.risenFaults)

/-- Step 3 of R103: the fault count, and the suspension of R36 with its advisory (R100). -/
def State.countFaults (s : State) (g : Nat) (grp : Group) (ev : CallEvent) : State :=
  match ev.faultEffect with
  | .keep => s
  | .reset => s.putGroup g { grp with faultCount := 0 }
  | .rise =>
    if grp.faultsSuspend then
      (s.putGroup g (grp.suspendedAt s.now)).offer (.suspended g .faultRun grp.config.suspensionCount)
    else s.putGroup g { grp with faultCount := grp.risenFaults }

/-- A group restored by success in REOPEN_SECOND (R107). -/
def Group.restored (grp : Group) : Group := { grp with service := .inService, twTimer := none, faultCount := 0 }

/-- Step 4 of R103: evidence acts by the service state held when the report is taken (R104, R105). -/
def State.applyEvidence (s : State) (g : Nat) (heldState : ServiceState) (e : Evidence) : State :=
  match e, heldState with
  | .success, .reopenFirst =>
    s.modifyGroup g (fun grp =>
      { grp with service := .reopenQuiet, tqTimer := some (s.now + msOfSeconds grp.config.tq) })
  | .success, .reopenSecond =>
    match s.group? g with
    | none => s
    | some grp => (s.putGroup g grp.restored).offer (.restored g grp.level)
  | .failure, .reopenQuiet => s.modifyGroup g (fun grp => { grp with service := .reopenFirst, tqTimer := none })
  | .failure, .reopenSecond => s.modifyGroup g (fun grp => { grp with service := .reopenFirst })
  | _, _ => s

/-- Step 5 of R103: the group's probe field and the call's probe flag are cleared together (R102). -/
def State.endProbe (s : State) (g tag : Nat) : State :=
  (s.modifyGroup g (fun grp => { grp with probe := none })).modifyCall tag (fun c => { c with probe := false })

/-- CTB's report of an event of a call to the group of its circuit, steps 1 to 5 of R103 and the window answers of R44. The
release of step 6 follows it where the event releases the circuit. None when the group is not configured. -/
def State.report (s : State) (tag g : Nat) (ev : CallEvent) : Option State := do
  let grp ← s.group? g
  let isProbe := decide (grp.probe = some tag)
  let s3 := s.countFaults g grp ev
  let s4 := s3.applyEvidence g grp.service (ev.evidence isProbe)
  let s5 := if isProbe then s4.endProbe g tag else s4
  return if ev = .answer then s5.modifyGroup g Group.countAnswer else s5

/-- A report of an event that releases the call's circuit (R82, R103). -/
def State.reportRelease (s : State) (tag g circuit : Nat) (ev : CallEvent) : Option State := do
  let s ← s.report tag g ev
  s.release circuit

/-- TS_EXPIRY (R101): the trial opens. -/
def execTsExpiry (g : Nat) (s : State) : Host.Outcome State Fault Refusal :=
  match s.group? g with
  | none => .next s
  | some grp =>
    if decide (grp.service = .suspended) && Timer.due grp.tsTimer s.now then
      .next (s.putGroup g
        { grp with service := .reopenFirst, tsTimer := none, twTimer := some (s.now + msOfSeconds grp.config.tw) })
    else .next s

/-- TQ_EXPIRY (R106): the quiet time ends. -/
def execTqExpiry (g : Nat) (s : State) : Host.Outcome State Fault Refusal :=
  match s.group? g with
  | none => .next s
  | some grp =>
    if decide (grp.service = .reopenQuiet) && Timer.due grp.tqTimer s.now then
      .next (s.putGroup g { grp with service := .reopenSecond, tqTimer := none })
    else .next s

/-- A service state under trial (R99). -/
def ServiceState.reopening : ServiceState → Bool
  | .reopenFirst => true
  | .reopenQuiet => true
  | .reopenSecond => true
  | _ => false

/-- A group whose reopen window lapses (R108). -/
def Group.lapsed (grp : Group) (now : Nat) : Group :=
  { grp.suspendedAt now with tqTimer := none, twTimer := none, probe := none }

/-- TW_EXPIRY (R108): the trial lapses and the group is suspended again. -/
def execTwExpiry (g : Nat) (s : State) : Host.Outcome State Fault Refusal :=
  match s.group? g with
  | none => .next s
  | some grp =>
    if grp.service.reopening && Timer.due grp.twTimer s.now then
      .next (((s.putGroup g (grp.lapsed s.now)).releaseProbeOf grp).offer (.suspended g .reopenLapsed 0))
    else .next s

end Sys2Proof.Machine
end

