-- ==== Sys2Proof/Machine/Accounts.lean ====
section
/-! DEFINITION. CHU's accounts: accrual, the settlement period and its close, and SET_CARRIER, DEL_CARRIER, READ_CARRIER, SET_PERIOD,
CLOSE, COLLECT and PERIOD_TIMER_EXPIRY (chapters 8 and 9). -/

namespace Sys2Proof.Machine

/-! ### Accrual -/

/-- An addition that would pass the accumulator's largest value (R139). -/
def passes (value amount : Nat) : Bool := decide (Config.maxAccumulator < value + amount)

/-- Adds to the payable accumulator, with its mark (R139). -/
def Bank.addPayable (b : Bank) (amount : Nat) : Bank :=
  { b with
    payable := satAdd Config.maxAccumulator b.payable amount, payableMark := b.payableMark || passes b.payable amount }

/-- Adds to the receivable accumulator, with its mark (R139). -/
def Bank.addReceivable (b : Bank) (amount : Nat) : Bank :=
  { b with
    receivable := satAdd Config.maxAccumulator b.receivable amount,
    receivableMark := b.receivableMark || passes b.receivable amount }

/-- One more step (R139). -/
def Bank.addStep (b : Bank) : Bank := { b with steps := satAdd Config.max32 b.steps 1 }

/-- One more handover (R139). -/
def Bank.addHandover (b : Bank) : Bank := { b with handovers := satAdd Config.max32 b.handovers 1 }

/-- One more transit (R139). -/
def Bank.addTransit (b : Bank) : Bank := { b with transits := satAdd Config.max32 b.transits 1 }

/-- Changes the running bank of an account. -/
def Account.onRunning (a : Account) (f : Bank → Bank) : Account := { a with running := f a.running }

/-- Changes the running bank of a carrier's account, none when the carrier is not configured. -/
def State.onBank (s : State) (k : Nat) (f : Bank → Bank) : Option State := do
  let a ← s.account? k
  return s.putAccount k (a.onRunning f)

/-- The amounts that CHU returns to CTB: payable and receivable (R136, R137). -/
structure Charged where
  payable : Nat
  receivable : Nat
  deriving DecidableEq, Repr

/-- The step accrual (R137; R136 step 3): priced at the tier of the outgoing account's N before the step. -/
def State.accrueStep (s : State) (outgoing incoming price multiplier : Nat) : Option (State × Charged) := do
  let a ← s.account? outgoing
  let c := stepCharge price multiplier (a.config.factor a.running.steps)
  let s ← s.onBank outgoing (fun b => (b.addPayable c).addStep)
  let i ← s.account? incoming
  let s ← s.onBank incoming (fun b => b.addReceivable (c + i.config.margin))
  return (s, { payable := c, receivable := c + i.config.margin })

/-- The answer accrual (R136): setup, counts, first step. The amounts include the setup. -/
def State.accrueAnswer (s : State) (outgoing incoming : Nat) (v : TariffValues) (multiplier : Nat) :
    Option (State × Charged) := do
  let amount := setupCharge v.setup multiplier
  let s ← s.onBank outgoing (fun b => b.addPayable amount)
  let s ← s.onBank incoming (fun b => b.addReceivable amount)
  let s ← s.onBank outgoing Bank.addHandover
  let s ← s.onBank incoming Bank.addTransit
  let (s, c) ← s.accrueStep outgoing incoming v.price multiplier
  return (s, { payable := amount + c.payable, receivable := amount + c.receivable })

/-! ### Accounts -/

/-- An empty bank (R145, R151). -/
def emptyBank : Bank :=
  { payable := 0, receivable := 0, steps := 0, handovers := 0, transits := 0, payableMark := false, receivableMark := false }

/-- The banks of a new account: zeroed, the closed bank collected (R145). -/
def newAccount (c : AccountConfig) : Account :=
  { config := c, running := emptyBank,
    closed := { bank := emptyBank, closedAt := none, tariffMark := false, collected := true } }

/-- The thresholds put in order (R145). -/
def AccountConfig.ordered (c : AccountConfig) : AccountConfig :=
  { c with b2 := max c.b1 c.b2, b3 := max (max c.b1 c.b2) c.b3 }

/-- The fields of SET_CARRIER (R145). -/
def readSetCarrier (body : List Byte) : Option (Nat × AccountConfig) := do
  let (k, body) ← takeNumber 1 body
  let (margin, body) ← takeNumber 2 body
  let (b1, body) ← takeNumber 4 body
  let (b2, body) ← takeNumber 4 body
  let (b3, body) ← takeNumber 4 body
  let (t0, body) ← takeNumber 1 body
  let (t1, body) ← takeNumber 1 body
  let (t2, body) ← takeNumber 1 body
  let (t3, _) ← takeNumber 1 body
  return (k, { margin := margin, b1 := b1, b2 := b2, b3 := b3, t0 := t0, t1 := t1, t2 := t2, t3 := t3 })

/-- The account an accepted SET_CARRIER leaves: a new one, or the old one's banks with new fields (R145, R146). -/
def writtenAccount (old : Option Account) (c : AccountConfig) : Account :=
  match old with
  | none => newAccount c.ordered
  | some a => { a with config := c.ordered }

/-- SET_CARRIER (R145, R146). -/
def handleSetCarrier (body : List Byte) (s : State) : Answer :=
  match readSetCarrier body with
  | none => refuse s .badLength
  | some (k, c) =>
    if Config.carrierCount ≤ k then refuse s .badIndex
    else
      accept (s.putAccount k (writtenAccount (s.account? k) c))
        (putOptional AccountConfig.layout ((s.account? k).map (·.config)) ++ c.ordered.layout)

/-- The number of configured groups that name a carrier (R147, R148). -/
def State.groupsNaming (s : State) (k : Nat) : Nat :=
  (s.tgm.groups.filter (fun e => decide (e.2.config.carrier = k))).length

/-- The number of live calls that name a carrier as incoming carrier (R147, R148). -/
def State.callsFrom (s : State) (k : Nat) : Nat := (s.ctb.filter (fun e => decide (e.2.incoming = k))).length

/-- A running bank that has gathered something (R147 condition 4). -/
def Bank.gathered (b : Bank) : Bool :=
  decide (0 < b.payable) || decide (0 < b.receivable) || decide (0 < b.steps) || decide (0 < b.handovers) ||
    decide (0 < b.transits) || b.payableMark || b.receivableMark

/-- The reason, if any, for which DEL_CARRIER is refused IN_USE: GROUP 0, CALL 1, UNCOLLECTED 2, RUNNING 3 (R147, R182). -/
def State.carrierInUse (s : State) (k : Nat) (a : Account) : Option Byte :=
  if 0 < s.groupsNaming k then some 0
  else if 0 < s.callsFrom k then some 1
  else if a.closed.collected = false then some 2
  else if a.running.gathered then some 3
  else none

/-- DEL_CARRIER (R147). -/
def handleDelCarrier (body : List Byte) (s : State) : Answer :=
  withRecord 1 Config.carrierCount s.account? body s (fun k a =>
    match s.carrierInUse k a with
    | some reason => refuseWith s .inUse [reason]
    | none => accept (s.setAccounts (s.chu.accounts.erase k)) a.config.layout)

/-- READ_CARRIER (R148). -/
def handleReadCarrier (body : List Byte) (s : State) : Answer :=
  withRecord 1 Config.carrierCount s.account? body s (fun k a =>
    accept s (a.config.layout ++ a.running.layout ++ a.closed.layout k false ++
      putNumber 1 (a.config.tier a.running.steps) ++ putNumber 2 (s.groupsNaming k) ++ putNumber 2 (s.callsFrom k)))

/-! ### The settlement period -/

/-- Every configured account's closed bank is collected (R150). -/
def State.allCollected (s : State) : Bool := s.chu.accounts.all (fun e => e.2.closed.collected)

/-- The number of configured accounts whose closed bank is not collected (R152). -/
def State.uncollected (s : State) : Nat :=
  (s.chu.accounts.filter (fun e => decide (e.2.closed.collected = false))).length

/-- An account at a close: its running bank becomes its closed bank (R151). -/
def Account.closedNow (a : Account) (p : Period) (clock : Nat) : Account :=
  { a with
    running := emptyBank,
    closed := { bank := a.running, closedAt := some (p.number, clock), tariffMark := p.tariffMark, collected := false } }

/-- The period timer for a length in minutes (R149, R151). -/
def periodTimer (length now : Nat) : Timer := if length = 0 then none else some (now + length * 60000)

/-- The period state after a close (R149, R151). -/
def Period.next (p : Period) (now : Nat) : Period :=
  { number := if p.number = Config.max32 then 0 else p.number + 1, length := p.length,
    timer := periodTimer p.length now, held := false, tariffMark := false }

/-- The close, as one step (R151), with its CLOSED advisory (R155). -/
def State.closePeriod (s : State) (trigger : PeriodTrigger) : State :=
  ((s.setAccounts (s.chu.accounts.mapValues (fun _ a => a.closedNow s.chu.period s.tmb.clock))).setPeriodState
    (s.chu.period.next s.now)).offer
      (.closed s.chu.period.number s.tmb.clock s.chu.accounts.length s.chu.period.tariffMark trigger)

/-- The hold begins (R152), with its CLOSE_HELD advisory (R155). -/
def State.holdPeriod (s : State) (trigger : PeriodTrigger) : State :=
  (s.setPeriodState { s.chu.period with held := true, timer := none }).offer
    (.closeHeld s.chu.period.number s.uncollected trigger)

/-- SET_PERIOD (R149). -/
def handleSetPeriod (body : List Byte) (s : State) : Answer :=
  match takeNumber 2 body with
  | none => refuse s .badLength
  | some (v, _) =>
    accept
      (s.setPeriodState
        { s.chu.period with
          length := min 1440 v,
          timer := if s.chu.period.held then s.chu.period.timer else periodTimer (min 1440 v) s.now })
      (putNumber 2 s.chu.period.length ++ putNumber 2 (min 1440 v))

/-- The fields of a HELD reply (R152). -/
def State.heldFields (s : State) (began : Bool) : List Byte :=
  putNumber 4 s.chu.period.number ++ putNumber 1 s.uncollected ++ putFlag began

/-- CLOSE (R150 to R152). -/
def handleClose (_body : List Byte) (s : State) : Answer :=
  if s.chu.period.held then refuseWith s .held (s.heldFields false)
  else if s.allCollected then
    accept (s.closePeriod .request)
      (putNumber 4 s.chu.period.number ++ putNumber 4 s.tmb.clock ++ putNumber 1 s.chu.accounts.length)
  else refuseWith (s.holdPeriod .request) .held (s.heldFields true)

/-- The closed bank of a carrier is marked collected (R153). -/
def Account.collect (a : Account) : Account := { a with closed := { a.closed with collected := true } }

/-- The collection of a closed bank that was not collected: the flag, and the held close when it was the last (R153, R154). -/
def State.collectBank (s : State) (k : Nat) (a : Account) : State :=
  if s.chu.period.held && (s.putAccount k a.collect).allCollected then (s.putAccount k a.collect).closePeriod .release
  else s.putAccount k a.collect

/-- The byte of the mark CLOSE_RELEASED, with the number of the period closed (R154, R182). -/
def State.releasedFields (s : State) (k : Nat) (a : Account) : List Byte :=
  if s.chu.period.held && (s.putAccount k a.collect).allCollected then 1 :: putNumber 4 s.chu.period.number else [0]

/-- COLLECT (R153, R154). -/
def handleCollect (body : List Byte) (s : State) : Answer :=
  withRecord 1 Config.carrierCount s.account? body s (fun k a =>
    if a.closed.collected then accept s (a.closed.layout k true ++ [0])
    else accept (s.collectBank k a) (a.closed.layout k false ++ s.releasedFields k a))

/-! ### The commands -/

/-- SET_CARRIER. -/
def execSetCarrier (number : Byte) (body : List Byte) (s : State) : Host.Outcome State Fault Refusal :=
  serve 0x06 number body handleSetCarrier s

/-- DEL_CARRIER. -/
def execDelCarrier (number : Byte) (body : List Byte) (s : State) : Host.Outcome State Fault Refusal :=
  serve 0x07 number body handleDelCarrier s

/-- SET_PERIOD. -/
def execSetPeriod (number : Byte) (body : List Byte) (s : State) : Host.Outcome State Fault Refusal :=
  serve 0x0F number body handleSetPeriod s

/-- READ_CARRIER. -/
def execReadCarrier (number : Byte) (body : List Byte) (s : State) : Host.Outcome State Fault Refusal :=
  serve 0x46 number body handleReadCarrier s

/-- COLLECT. -/
def execCollect (number : Byte) (body : List Byte) (s : State) : Host.Outcome State Fault Refusal :=
  serve 0x49 number body handleCollect s

/-- CLOSE. -/
def execClose (number : Byte) (body : List Byte) (s : State) : Host.Outcome State Fault Refusal :=
  serve 0x4A number body handleClose s

/-- PERIOD_TIMER_EXPIRY (R150): the period closes, or is held. -/
def execPeriodTimerExpiry (s : State) : Host.Outcome State Fault Refusal :=
  if Timer.due s.chu.period.timer s.now then
    (if s.allCollected then .next (s.closePeriod .timer) else .next (s.holdPeriod .timer))
  else .next s

end Sys2Proof.Machine
end

