-- ==== Sys2Proof/Machine/Tariffs.lean ====
section
/-! DEFINITION. Tariff classes, their schedules and the part clock: LOAD_TARIFF, SCHEDULE_TARIFF, CANCEL_TARIFF, READ_TARIFF, SET_CLOCK
and PART_CLOCK_RISE (chapter 10). -/

namespace Sys2Proof.Machine

/-! ### Activation -/

/-- The activation of a class as one step (R165): a class with no pending set has nothing to activate. -/
def State.activate (trigger : TariffTrigger) (s : State) (c : Nat) : State :=
  match s.tariff? c with
  | none => s
  | some t =>
    match t.pendingSet with
    | none => s
    | some v =>
      ((s.putTariff c { active := v, pendingSet := none, schedule := none }).setPeriodState
        { s.chu.period with tariffMark := true }).offer (.tariffOn c v s.tmb.clock trigger)

/-- A class whose schedule lies at or before a clock value (R164, R165). -/
def TariffClass.reached (clock : Nat) (t : TariffClass) : Bool :=
  match t.schedule with
  | none => false
  | some at_ => decide (at_ ≤ clock)

/-- The classes whose schedules a clock value reaches, in rising class index (R164, R165). -/
def State.classesReached (s : State) (clock : Nat) : List Nat :=
  (s.chu.tariffs.filter (fun e => e.2.reached clock)).map (·.1)

/-- The part clock takes a value, its count starts afresh, and every schedule it reaches is activated (R164, R165). -/
def State.clockTo (s : State) (clock : Nat) (trigger : TariffTrigger) : State :=
  (s.classesReached clock).foldl (State.activate trigger) (s.setTime { s.tmb with clock := clock, clockCount := 0 })

/-! ### The requests -/

/-- The fields of LOAD_TARIFF (R160). -/
def readLoadTariff (body : List Byte) : Option (Nat × TariffValues) := do
  let (c, body) ← takeNumber 1 body
  let (setup, body) ← takeNumber 2 body
  let (price, body) ← takeNumber 2 body
  let (interval, body) ← takeNumber 2 body
  let (fine, _) ← takeNumber 1 body
  return (c, { setup := setup, price := price, interval := interval, fine := fine })

/-- The clamps of R160. -/
def TariffValues.clamped (v : TariffValues) : TariffValues :=
  { v with interval := min 4095 v.interval, fine := min 15 v.fine }

/-- The class an accepted LOAD_TARIFF leaves: active values for a class not configured, else a pending set (R160). -/
def loadedClass (old : Option TariffClass) (v : TariffValues) : TariffClass :=
  match old with
  | none => { active := v, pendingSet := none, schedule := none }
  | some t => { t with pendingSet := some v }

/-- The schedule a class holds, if it is configured. -/
def State.scheduleOf (s : State) (c : Nat) : Option Nat := (s.tariff? c).bind (·.schedule)

/-- LOAD_TARIFF (R160). -/
def handleLoadTariff (body : List Byte) (s : State) : Answer :=
  match readLoadTariff body with
  | none => refuse s .badLength
  | some (c, v) =>
    if Config.classCount ≤ c then refuse s .badIndex
    else if (s.scheduleOf c).isSome then refuse s .scheduled
    else
      accept (s.putTariff c (loadedClass (s.tariff? c) v.clamped))
        (putOptional TariffValues.layout ((s.tariff? c).bind (·.pendingSet)) ++ v.clamped.layout ++
          putNumber 3 v.clamped.intervalMs)

/-- The fields of SCHEDULE_TARIFF (R161). -/
def readScheduleTariff (body : List Byte) : Option (Nat × Nat) := do
  let (c, body) ← takeNumber 1 body
  let (t, _) ← takeNumber 4 body
  return (c, t)

/-- SCHEDULE_TARIFF (R161; its reply, log 14). -/
def handleScheduleTariff (body : List Byte) (s : State) : Answer :=
  match readScheduleTariff body with
  | none => refuse s .badLength
  | some (c, time) =>
    if Config.classCount ≤ c then refuse s .badIndex
    else
      match s.tariff? c with
      | none => refuseWith s .notConfigured [0]
      | some t =>
        match t.pendingSet with
        | none => refuseWith s .notConfigured [1]
        | some v =>
          if s.tmb.clock < time then
            accept (s.putTariff c { t with schedule := some time })
              (putOptional (putNumber 4) t.schedule ++ putNumber 4 time ++ putNumber 4 (time - s.tmb.clock))
          else
            accept (s.activate .request c) (putOptional (putNumber 4) t.schedule ++ [0] ++ v.layout)

/-- CANCEL_TARIFF (R162). -/
def handleCancelTariff (body : List Byte) (s : State) : Answer :=
  withRecord 1 Config.classCount s.tariff? body s (fun c t =>
    accept (s.putTariff c { t with schedule := none }) (putOptional (putNumber 4) t.schedule))

/-- The number of configured groups that name a class (R163). -/
def State.groupsOfClass (s : State) (c : Nat) : Nat :=
  (s.tgm.groups.filter (fun e => decide (e.2.config.tariffClass = c))).length

/-- The values of a tariff with the interval they give (R163). -/
def TariffValues.layoutWithInterval (v : TariffValues) : List Byte := v.layout ++ putNumber 3 v.intervalMs

/-- READ_TARIFF (R163). The seconds remaining stand behind the presence byte of the schedule and have none of their own (R182; the
model's reading, log 36). -/
def handleReadTariff (body : List Byte) (s : State) : Answer :=
  withRecord 1 Config.classCount s.tariff? body s (fun c t =>
    accept s (t.active.layoutWithInterval ++ putOptional TariffValues.layoutWithInterval t.pendingSet ++
      putOptional (fun at_ => putNumber 4 at_ ++ putNumber 4 (at_ - s.tmb.clock)) t.schedule ++
      putNumber 4 s.tmb.clock ++ putNumber 2 (s.groupsOfClass c)))

/-- SET_CLOCK (R164). -/
def handleSetClock (body : List Byte) (s : State) : Answer :=
  match takeNumber 4 body with
  | none => refuse s .badLength
  | some (v, _) =>
    accept (s.clockTo v .setClock)
      (putNumber 4 s.tmb.clock ++ putNumber 4 v ++ putNumber 1 (s.classesReached v).length)

/-! ### The commands -/

/-- LOAD_TARIFF. -/
def execLoadTariff (number : Byte) (body : List Byte) (s : State) : Host.Outcome State Fault Refusal :=
  serve 0x08 number body handleLoadTariff s

/-- SCHEDULE_TARIFF. -/
def execScheduleTariff (number : Byte) (body : List Byte) (s : State) : Host.Outcome State Fault Refusal :=
  serve 0x09 number body handleScheduleTariff s

/-- CANCEL_TARIFF. -/
def execCancelTariff (number : Byte) (body : List Byte) (s : State) : Host.Outcome State Fault Refusal :=
  serve 0x0A number body handleCancelTariff s

/-- SET_CLOCK. -/
def execSetClock (number : Byte) (body : List Byte) (s : State) : Host.Outcome State Fault Refusal :=
  serve 0x0E number body handleSetClock s

/-- READ_TARIFF. -/
def execReadTariff (number : Byte) (body : List Byte) (s : State) : Host.Outcome State Fault Refusal :=
  serve 0x47 number body handleReadTariff s

/-- The part clock reaches its next rise: 1,000 ticks after the last, outside initialisation and reset (R164, R168). -/
def State.riseDue (s : State) : Bool := decide (s.lif.phase = .running) && decide (1000 ≤ s.tmb.clockCount)

/-- PART_CLOCK_RISE (R164): the clock rises by one and activates what it reaches; at its largest value it holds. -/
def execPartClockRise (s : State) : Host.Outcome State Fault Refusal :=
  if s.riseDue then
    (if s.tmb.clock < Config.max32 then .next (s.clockTo (s.tmb.clock + 1) .clock)
     else .next (s.setTime { s.tmb with clockCount := 0 }))
  else .next s

end Sys2Proof.Machine
end

