-- ==== Sys2Proof/Machine/Selection.lean ====
section
/-! DEFINITION. RSL's selection: the candidate test, the search, the grant and SEEK (chapter 4). -/

namespace Sys2Proof.Machine

/-! ### The candidate test -/

/-- A candidate found usable, with what the grant and the reply need of its test (R61, R64, R65, R69). -/
structure Candidate where
  position : Nat
  group : Nat
  multiplier : Nat
  rate : Nat
  outgoing : Digits
  asProbe : Bool
  deriving DecidableEq, Repr

/-- The outcome of a candidate test: skipped for one recorded condition, or usable (R61). -/
inductive Tested where
  | skipped (condition : Cause)
  | usable (c : Candidate)
  deriving DecidableEq, Repr

/-- The present rate of a group (R64, R133). None when its tariff class or its carrier's account is missing (R126). -/
def State.presentRate (s : State) (grp : Group) : Option Nat := do
  let t ← s.tariff? grp.config.tariffClass
  let a ← s.account? grp.config.carrier
  return ratePerMinute (stepCharge t.active.price grp.multiplier (a.config.factor a.running.steps)) t.active.intervalMs

/-- A group under restoral that admits an ORDINARY call as its probe (R62). -/
def Group.takesProbe (grp : Group) (cls : CallClass) : Bool :=
  (decide (grp.service = .reopenFirst) || decide (grp.service = .reopenSecond)) && grp.probe.isNone &&
    decide (cls = .ordinary)

/-- Condition 2: the service state lets the call in (R62). -/
def Group.serviceOpen (grp : Group) (cls : CallClass) : Bool :=
  decide (grp.service = .inService) || grp.takesProbe cls

/-- Condition 4: reservation and level at an alternate position, for a call other than PRIORITY (R63). -/
def Group.alternateOpen (grp : Group) (cls : CallClass) (position : Nat) : Bool :=
  decide (position ≤ 1) || decide (cls = .priority) ||
    (decide (grp.config.reservation < grp.idleCount) && decide (grp.level < 3))

/-- Condition 5: the ceiling, for a call other than PRIORITY (R64). -/
def underCeiling (ceiling : Option Nat) (cls : CallClass) (rate : Nat) : Bool :=
  match ceiling with
  | none => true
  | some c => decide (cls = .priority) || decide (rate ≤ c)

/-- Conditions 5 and 6, which need the present rate and the treated number (R61, R64, R65). -/
def Group.testPriced (grp : Group) (ceiling : Option Nat) (cls : CallClass) (number : Digits) (position g rate : Nat) :
    Tested :=
  if !underCeiling ceiling cls rate then .skipped .ceiling
  else if !acceptable (grp.config.treat number) then .skipped .digits
  else
    .usable { position := position, group := g, multiplier := grp.multiplier, rate := rate,
              outgoing := grp.config.treat number, asProbe := grp.takesProbe cls }

/-- The candidate test (R61): the conditions in order, the first that fails decides. -/
def State.testCandidate (s : State) (ceiling : Option Nat) (cls : CallClass) (number : Digits) (position g : Nat) :
    Option Tested :=
  match s.group? g with
  | none => some (.skipped .unavailable)
  | some grp =>
    if !grp.serviceOpen cls then some (.skipped .unavailable)
    else if grp.idleCount = 0 then some (.skipped .noCircuit)
    else if !grp.alternateOpen cls position then some (.skipped .strained)
    else (s.presentRate grp).map (fun rate => grp.testPriced ceiling cls number position g rate)

/-- An overflow is reported for NO_CIRCUIT and STRAINED alone (R66). -/
def reportsOverflow (c : Cause) : Bool := decide (c = .noCircuit) || decide (c = .strained)

/-- What a skipped candidate leaves changed (R66). -/
def State.skip (s : State) (g : Nat) (c : Cause) : State :=
  if reportsOverflow c then s.modifyGroup g Group.countOverflow else s

/-! ### The search -/

/-- How a search ends (R67): a candidate taken, or none with the recorded conditions. -/
inductive Found where
  | taken (c : Candidate)
  | exhausted (conditions : List Cause)
  deriving DecidableEq, Repr

/-- The search of a plan's positions in an order (R67). -/
def search (plan : Plan) (cls : CallClass) (number : Digits) : List Nat → List Cause → State → Option (State × Found)
  | [], conditions, s => some (s, .exhausted conditions)
  | position :: rest, conditions, s =>
    match plan.choices[position - 1]? with
    | none => search plan cls number rest conditions s
    | some g =>
      match s.testCandidate plan.ceiling cls number position g with
      | none => none
      | some (.usable c) => some (s, .taken c)
      | some (.skipped c) => search plan cls number rest (c :: conditions) (s.skip g c)

/-- The candidate order of a SEEK (R60). -/
def Plan.order (p : Plan) (cls : CallClass) : List Nat :=
  if cls = .onward then [1]
  else
    match (if p.hasSticky then p.stickyPosition else none) with
    | none => List.range' 1 p.choices.length
    | some sp => 1 :: sp :: (List.range' 2 (p.choices.length - 1)).filter (fun i => decide (i ≠ sp))

/-- The cause a search with no candidate taken is denied with (R73). -/
def chooseCause (conditions : List Cause) : Cause :=
  if conditions.contains .ceiling then .ceiling
  else if conditions.contains .strained then .strained
  else if conditions.contains .noCircuit then .noCircuit
  else if conditions.contains .digits then .digits
  else .unavailable

/-! ### The grant -/

/-- The IDLE circuits of a group, in rising order (R27). -/
def State.idleCircuits (s : State) (g : Nat) : List Nat :=
  (s.tgm.circuits.filter (fun e => decide (e.2.owner = g) && e.2.state.isIdle)).map (·.1)

/-- The circuit the hunt chooses among a group's IDLE circuits (R27). -/
def huntAmong (order : HuntOrder) (rotate : Nat) (idle : List Nat) : Option Nat :=
  match order with
  | .ascending => idle.head?
  | .descending => idle.getLast?
  | .rotating =>
    (idle.filter (fun c => decide (rotate < c)) ++ idle.filter (fun c => decide (c ≤ rotate))).head?

/-- A group after the hunt and the probe mark of a grant (R27, R69). -/
def Group.hunted (grp : Group) (circuit tag : Nat) (asProbe : Bool) : Group :=
  { grp with
    rotatePosition := if grp.config.hunt = .rotating then circuit else grp.rotatePosition,
    probe := if asProbe then some tag else grp.probe }

/-- The seizure of a circuit for a tag (R28, R44), with the raise test (R41). -/
def State.seize (s : State) (g circuit tag : Nat) (grp : Group) : State :=
  let s1 := s.putCircuit circuit { owner := g, state := .busy tag, blockPending := false }
  (s1.putGroup g (grp.loseIdle.countSeizure (s1.busyCount g))).raiseTest g

/-- The sticky position at a grant (R70). -/
def State.grantSticky (s : State) (plan position : Nat) : State :=
  match s.plan? plan with
  | none => s
  | some p => s.putPlan plan (p.grantSticky position)

/-- Steps 1 to 4 of the grant (R68, R90), with the circuit seized. None when the group has no IDLE circuit after all. -/
def State.grant (s : State) (tag plan : Nat) (cand : Candidate) : Option (State × Nat) := do
  let grp ← s.group? cand.group
  let circuit ← huntAmong grp.config.hunt grp.rotatePosition (s.idleCircuits cand.group)
  return ((s.seize cand.group circuit tag (grp.hunted circuit tag cand.asProbe)).grantSticky plan cand.position, circuit)

/-- The fields of GRANT, which REGRANT continues (R72, R90, R182). -/
def Candidate.grantFields (cand : Candidate) (circuit : Nat) : List Byte :=
  putNumber 2 cand.group ++ putNumber 2 circuit ++ putNumber 1 cand.position ++ putFlag cand.asProbe ++
    putNumber 4 cand.rate ++ putDigits cand.outgoing

/-! ### SEEK -/

/-- The fields of SEEK as sent (R57, R182). -/
structure SeekFields where
  tag : Nat
  number : Digits
  classByte : Nat
  incoming : Nat
  deriving DecidableEq, Repr

/-- Reads SEEK (R57, R182). -/
def readSeek (body : List Byte) : Option SeekFields := do
  let (tag, body) ← takeNumber 4 body
  let (number, body) ← takeDigits body
  let (classByte, body) ← takeNumber 1 body
  let (incoming, _) ← takeNumber 1 body
  return { tag := tag, number := number, classByte := classByte, incoming := incoming }

/-- The record of a granted call (R71). -/
def SeekFields.record (f : SeekFields) (cls : CallClass) (plan circuit : Nat) (cand : Candidate) (grp : Group) (s : State) :
    Call :=
  { number := f.number, circuit := circuit, group := cand.group, plan := plan, position := cand.position, callClass := cls,
    incoming := f.incoming, attempts := 1, state := .seizing, multiplier := cand.multiplier,
    tariffClass := grp.config.tariffClass, probe := cand.asProbe, grantTime := s.tmb.clock, answerTime := none, steps := 0,
    payable := 0, receivable := 0, supervision := some (s.now + grp.config.seizureTime), chargeStep := none }

/-- The grant of a SEEK's taken candidate (R68, R71, R72). -/
def State.grantSeek (s : State) (f : SeekFields) (cls : CallClass) (plan : Nat) (cand : Candidate) : Option Answer := do
  let grp ← s.group? cand.group
  let (s, circuit) ← s.grant f.tag plan cand
  return (s.putCall f.tag (f.record cls plan circuit cand grp s), Result.grant.code :: cand.grantFields circuit)

/-- The fields of DENY: the cause, and the plan index, which is absent for NO_PREFIX and so stands behind a presence byte (R74, R182; the
model's reading, log 33). -/
def denyFields (cause : Cause) (index : Option Nat) : List Byte := cause.code :: putOptional (putNumber 2) index

/-- The search of a SEEK that was let in, and its reply (R67, R73, R74). -/
def State.searchSeek (s : State) (f : SeekFields) (cls : CallClass) (index : Nat) (plan : Plan) : Option Answer := do
  let (s, found) ← search plan cls f.number (plan.order cls) [] s
  match found with
  | .taken cand => s.grantSeek f cls index cand
  | .exhausted conditions => return refuseWith s .deny (denyFields (chooseCause conditions) (some index))

/-- Number analysis and gap admission of a SEEK that passed its checks (R58, R59), or its denial (R74). -/
def State.analyseSeek (s : State) (f : SeekFields) (cls : CallClass) : Option Answer :=
  match longestMatch f.number s.rsl.prefixes with
  | none => some (refuseWith s .deny (denyFields .noPrefix none))
  | some e => do
    let plan ← s.plan? e.plan
    if cls = .priority then s.searchSeek f cls e.plan plan
    else
      let a := admission s.now f.number e.plan s.gpc.gaps
      let s := s.setGaps a.2
      if a.1 then s.searchSeek f cls e.plan plan
      else return refuseWith s .deny (denyFields .gapped (some e.plan))

/-- SEEK (R57 to R74). -/
def handleSeek (body : List Byte) (s : State) : Option Answer :=
  match readSeek body with
  | none => some (refuse s .badLength)
  | some f =>
    if decide (f.tag = 0) || !digitsIn 1 16 f.number then some (refuse s .badValue)
    else
      match callClassOf f.classByte with
      | none => some (refuse s .badValue)
      | some cls =>
        if Config.carrierCount ≤ f.incoming then some (refuse s .badIndex)
        else if (s.account? f.incoming).isNone then some (refuse s .badCarrier)
        else if (s.call? f.tag).isSome then some (refuse s .duplicateTag)
        else s.analyseSeek f cls

/-- SEEK. -/
def execSeek (number : Byte) (body : List Byte) (s : State) : Host.Outcome State Fault Refusal :=
  serveLaw 0x20 number body handleSeek s

end Sys2Proof.Machine
end

