-- ==== Sys2Proof/Machine/Calls.lean ====
section
/-! DEFINITION. CTB: PROGRESS, ANSWER, FAIL with crankback, CLEAR, READ_CALL, SEIZURE_SUPERVISION_EXPIRY and CHARGE_STEP_EXPIRY
(chapter 5). -/

namespace Sys2Proof.Machine

/-! ### Checks common to the call requests -/

/-- The reply to a request for a tag that is not live (R79, R93). -/
def refuseUnknown (s : State) (tag : Nat) : Answer := refuseWith s .unknownCall (putNumber 4 tag)

/-- The reply to a request that the record's state does not take (R79). -/
def refuseState (s : State) (tag : Nat) (call : Call) : Answer :=
  refuseWith s .wrongState (putNumber 4 tag ++ [call.state.code])

/-- The checks of R79 for a request that carries a tag alone, and the action on a record whose state takes it. -/
def withCall (body : List Byte) (s : State) (taken : CallState → Bool) (act : Nat → Call → Option Answer) :
    Option Answer :=
  match takeNumber 4 body with
  | none => some (refuse s .badLength)
  | some (tag, _) =>
    if tag = 0 then some (refuse s .badValue)
    else
      match s.call? tag with
      | none => some (refuseUnknown s tag)
      | some call => if taken call.state then act tag call else some (refuseState s tag call)

/-- The states in which PROGRESS is taken (R78). -/
def CallState.takesProgress : CallState → Bool
  | .seizing => true
  | _ => false

/-- The states in which ANSWER and FAIL are taken (R78). -/
def CallState.takesAnswer : CallState → Bool
  | .seizing => true
  | .alerting => true
  | .answered => false

/-! ### Progress and answer -/

/-- PROGRESS on a record in SEIZING (R80). -/
def State.progressCall (s : State) (tag : Nat) (call : Call) : Option Answer := do
  let s ← s.report tag call.group .progress
  return accept (s.modifyCall tag (fun c => { c with state := .alerting, supervision := none }))
    (putNumber 4 tag ++ [CallState.alerting.code])

/-- PROGRESS (R79, R80). -/
def handleProgress (body : List Byte) (s : State) : Option Answer :=
  withCall body s CallState.takesProgress s.progressCall

/-- A record that is answered, with the amounts of the answer accrual (R81, R140). -/
def Call.answeredWith (c : Call) (clock expiry : Nat) (amounts : Charged) : Call :=
  { c with
    state := .answered, answerTime := some clock, supervision := none, chargeStep := some expiry, steps := 1,
    payable := satAdd Config.maxTotal c.payable amounts.payable,
    receivable := satAdd Config.maxTotal c.receivable amounts.receivable }

/-- The carrier that a call is handed to: the carrier of its group (R126). -/
def State.outgoingOf (s : State) (call : Call) : Option Nat := (s.group? call.group).map (·.config.carrier)

/-- ANSWER on a record in SEIZING or ALERTING (R81, R136). -/
def State.answerCall (s : State) (tag : Nat) (call : Call) : Option Answer := do
  let s ← s.report tag call.group .answer
  let t ← s.tariff? call.tariffClass
  let outgoing ← s.outgoingOf call
  let (s, amounts) ← s.accrueAnswer outgoing call.incoming t.active call.multiplier
  let c ← s.call? tag
  let c := c.answeredWith s.tmb.clock (s.now + t.active.intervalMs) amounts
  return accept (s.putCall tag c)
    (putNumber 4 tag ++ putNumber 4 c.steps ++ putNumber 5 c.payable ++ putNumber 5 c.receivable)

/-- ANSWER (R79, R81). -/
def handleAnswer (body : List Byte) (s : State) : Option Answer := withCall body s CallState.takesAnswer s.answerCall

/-! ### Failure and crankback -/

/-- The FAIL causes (R79, R181). -/
def failEventOf (b : Nat) : Option (CallEvent × Cause) :=
  if b = 0x08 then some (.farBusy, .farBusy)
  else if b = 0x09 then some (.farCongestion, .farCongestion)
  else if b = 0x0A then some (.circuitFault, .circuitFault)
  else none

/-- A failed seizure advances the sticky position unless the called party is busy (R87 step 3). -/
def State.failSticky (s : State) (call : Call) (ev : CallEvent) : State :=
  if ev = .farBusy then s else s.advanceSticky call.plan call.position

/-- The conditions of R88 for a crankback continuation. -/
def continues (plan : Plan) (call : Call) (ev : CallEvent) (reroute : Bool) : Bool :=
  decide (ev ≠ .farBusy) && reroute && decide (call.callClass ≠ .onward) && decide (call.attempts ≤ plan.crankbackLimit) &&
    decide (call.position + 1 ≤ plan.choices.length)

/-- The positions of a continuation: from the call's position + 1 to n (R89). -/
def continuationOrder (plan : Plan) (call : Call) : List Nat :=
  List.range' (call.position + 1) (plan.choices.length - call.position)

/-- FINAL: the record is removed (R91). -/
def State.finalFail (s : State) (tag : Nat) (call : Call) (cause : Cause) : Answer :=
  refuseWith (s.eraseCall tag) .final (putNumber 4 tag ++ putNumber 1 call.attempts ++ [cause.code])

/-- The record after a REGRANT (R90). -/
def Call.regranted (call : Call) (circuit : Nat) (cand : Candidate) (grp : Group) (s : State) : Call :=
  { call with
    circuit := circuit, group := cand.group, position := cand.position, attempts := call.attempts + 1, state := .seizing,
    multiplier := cand.multiplier, tariffClass := grp.config.tariffClass, probe := cand.asProbe, grantTime := s.tmb.clock,
    supervision := some (s.now + grp.config.seizureTime), chargeStep := none }

/-- The grant of a continuation's taken candidate (R90). -/
def State.regrant (s : State) (tag : Nat) (call : Call) (cand : Candidate) : Option Answer := do
  let grp ← s.group? cand.group
  let (s, circuit) ← s.grant tag call.plan cand
  return (s.putCall tag (call.regranted circuit cand grp s),
    Result.regrant.code :: (cand.grantFields circuit ++ putNumber 4 tag ++ putNumber 1 (call.attempts + 1)))

/-- The continuation of a failed call (R89), ending in REGRANT or FINAL. -/
def State.continueCall (s : State) (tag : Nat) (call : Call) (plan : Plan) : Option Answer := do
  let (s, found) ← search plan call.callClass call.number (continuationOrder plan call) [] s
  match found with
  | .taken cand => s.regrant tag call cand
  | .exhausted conditions => return s.finalFail tag call (chooseCause conditions)

/-- FAIL on a record in SEIZING or ALERTING (R87, R88). -/
def State.failCall (s : State) (tag : Nat) (call : Call) (ev : CallEvent) (cause : Cause) (reroute : Bool) :
    Option Answer := do
  let s ← s.reportRelease tag call.group call.circuit ev
  let s := s.failSticky call ev
  let plan ← s.plan? call.plan
  if continues plan call ev reroute then s.continueCall tag call plan
  else return s.finalFail tag call cause

/-- The fields of FAIL (R79). -/
def readFail (body : List Byte) : Option (Nat × Nat × Nat) := do
  let (tag, body) ← takeNumber 4 body
  let (cause, body) ← takeNumber 1 body
  let (flag, _) ← takeNumber 1 body
  return (tag, cause, flag)

/-- FAIL (R79, R87 to R91). -/
def handleFail (body : List Byte) (s : State) : Option Answer :=
  match readFail body with
  | none => some (refuse s .badLength)
  | some (tag, causeByte, flag) =>
    match failEventOf causeByte with
    | none => some (refuse s .badValue)
    | some (ev, cause) =>
      if decide (tag = 0) || decide (1 < flag) then some (refuse s .badValue)
      else
        match s.call? tag with
        | none => some (refuseUnknown s tag)
        | some call =>
          if call.state.takesAnswer then s.failCall tag call ev cause (decide (flag = 1))
          else some (refuseState s tag call)

/-! ### Clearing and reading -/

/-- CLEAR on a live record (R92). -/
def State.clearCall (s : State) (tag : Nat) (call : Call) : Option Answer := do
  let s ← s.reportRelease tag call.group call.circuit .clear
  return accept (s.eraseCall tag)
    (putNumber 4 tag ++ [call.state.code] ++ putNumber 4 call.steps ++ putNumber 5 call.payable ++
      putNumber 5 call.receivable)

/-- CLEAR (R79, R92). -/
def handleClear (body : List Byte) (s : State) : Option Answer := withCall body s (fun _ => true) s.clearCall

/-- The timer of a call that is running and the mark saying which, behind a presence byte, since ALERTING has neither (R93, R182;
log 16). -/
def Call.timerLayout (c : Call) (now : Nat) : List Byte :=
  match c.supervision, c.chargeStep with
  | some e, _ => putRemaining now (some e) ++ putOptional (putNumber 1) (some 0)
  | none, some e => putRemaining now (some e) ++ putOptional (putNumber 1) (some 1)
  | none, none => putRemaining now none ++ putOptional (putNumber 1) none

/-- Every field of R77, as READ_CALL carries it (R93). -/
def Call.layout (c : Call) (tag now : Nat) : List Byte :=
  putNumber 4 tag ++ putDigits c.number ++ putNumber 2 c.circuit ++ putNumber 2 c.group ++ putNumber 2 c.plan ++
    putNumber 1 c.position ++ [c.callClass.code] ++ putNumber 1 c.incoming ++ putNumber 1 c.attempts ++ [c.state.code] ++
    putNumber 1 c.multiplier ++ putNumber 1 c.tariffClass ++ putFlag c.probe ++ putNumber 4 c.grantTime ++
    putOptional (putNumber 4) c.answerTime ++ putNumber 4 c.steps ++ putNumber 5 c.payable ++ putNumber 5 c.receivable ++
    c.timerLayout now

/-- READ_CALL (R93). -/
def handleReadCall (body : List Byte) (s : State) : Answer :=
  match takeNumber 4 body with
  | none => refuse s .badLength
  | some (tag, _) =>
    if tag = 0 then refuse s .badValue
    else
      match s.call? tag with
      | none => refuseUnknown s tag
      | some call => accept s (call.layout tag s.now)

/-! ### The expiries of a call -/

/-- The end of a call whose seizure nobody answered (R84). -/
def State.superviseOut (s : State) (tag : Nat) (call : Call) : Option State := do
  let s ← s.reportRelease tag call.group call.circuit .supervision
  let s := s.advanceSticky call.plan call.position
  return (s.offer (.timeout tag call.group call.circuit)).eraseCall tag

/-- A record with one more charge step (R86, R140). -/
def Call.charged (c : Call) (expiry : Nat) (amounts : Charged) : Call :=
  { c with
    chargeStep := some expiry,
    steps := satAdd Config.max32 c.steps 1,
    payable := satAdd Config.maxTotal c.payable amounts.payable,
    receivable := satAdd Config.maxTotal c.receivable amounts.receivable }

/-- A charge step of an answered call (R86, R137), and the restart of its timer (R85). -/
def State.chargeCall (s : State) (tag : Nat) (call : Call) : Option State := do
  let t ← s.tariff? call.tariffClass
  let outgoing ← s.outgoingOf call
  let (s, amounts) ← s.accrueStep outgoing call.incoming t.active.price call.multiplier
  return s.putCall tag (call.charged (s.now + t.active.intervalMs) amounts)

/-! ### The commands -/

/-- PROGRESS. -/
def execProgress (number : Byte) (body : List Byte) (s : State) : Host.Outcome State Fault Refusal :=
  serveLaw 0x21 number body handleProgress s

/-- ANSWER. -/
def execAnswer (number : Byte) (body : List Byte) (s : State) : Host.Outcome State Fault Refusal :=
  serveLaw 0x22 number body handleAnswer s

/-- FAIL. -/
def execFail (number : Byte) (body : List Byte) (s : State) : Host.Outcome State Fault Refusal :=
  serveLaw 0x23 number body handleFail s

/-- CLEAR. -/
def execClear (number : Byte) (body : List Byte) (s : State) : Host.Outcome State Fault Refusal :=
  serveLaw 0x24 number body handleClear s

/-- READ_CALL. -/
def execReadCall (number : Byte) (body : List Byte) (s : State) : Host.Outcome State Fault Refusal :=
  serve 0x45 number body handleReadCall s

/-- SEIZURE_SUPERVISION_EXPIRY (R84), in SEIZING. -/
def execSeizureSupervisionExpiry (tag : Nat) (s : State) : Host.Outcome State Fault Refusal :=
  match s.call? tag with
  | none => .next s
  | some call =>
    if decide (call.state = .seizing) && Timer.due call.supervision s.now then occurs (s.superviseOut tag call) else .next s

/-- CHARGE_STEP_EXPIRY (R86), in ANSWERED. -/
def execChargeStepExpiry (tag : Nat) (s : State) : Host.Outcome State Fault Refusal :=
  match s.call? tag with
  | none => .next s
  | some call =>
    if decide (call.state = .answered) && Timer.due call.chargeStep s.now then occurs (s.chargeCall tag call) else .next s

end Sys2Proof.Machine
end

