-- ==== Sys2Proof/Machine/Link.lean ====
section
/-! DEFINITION. LIF: the receiver, the out-line, link reset, power-on and the reset pin, STATUS, RESTART and a frame of unknown kind
(chapter 11). -/

namespace Sys2Proof.Machine

/-! ### The receiver -/

/-- The in-line is spacing: a link reset has begun and the line has not returned to marking (R177). -/
def Lif.spacing (l : Lif) : Bool :=
  match l.linkReset with
  | none => false
  | some r => !r.marking

/-- The part takes characters: not while its reset pin is held, and not while the in-line is spacing (R169, R177). -/
def Lif.listening (l : Lif) : Bool := decide (l.phase ≠ .held) && !l.spacing

/-- A frame is abandoned (R170). -/
def Lif.abandon (l : Lif) : Lif := { l with receiver := .hunting, linkError := true }

/-- A completed frame joins the request queue, or is discarded with OVERRUN (R171). -/
def Lif.queueFrame (l : Lif) (f : Frame) : Lif :=
  if l.requests.length < Config.requestCapacity then { l with requests := l.requests ++ [f] } else { l with overrun := true }

/-- A frame completed during the initialisation is answered NOT_READY, or discarded when the reply queue is full (R178). -/
def Lif.answerNotReady (l : Lif) (f : Frame) : Lif :=
  if l.replies.length < Config.replyCapacity then
    { l with
      replies := l.replies ++
        [{ kind := replyKind f.kind, number := f.number, body := [notReadySummary, Result.notReady.code] }] }
  else l

/-- What becomes of a completed frame (R171, R178). -/
def Lif.frameDone (l : Lif) (f : Frame) : Lif :=
  match l.phase with
  | .initialising => l.answerNotReady f
  | .running => l.queueFrame f
  | .held => l

/-- The frame in a complete byte string: after the two length bytes come kind, number and body, then the check (R182). -/
def frameOf (length : Nat) (bytes : List Byte) : Frame :=
  { kind := (bytes.drop 2).headD 0, number := (bytes.drop 3).headD 0, body := (bytes.drop 4).take (length - 2) }

/-- The check received matches the check computed over length, kind, number and body (R170). -/
def checkMatches (length : Nat) (bytes : List Byte) : Bool :=
  decide (valueOf (bytes.drop (length + 2)) = (frameCheck (bytes.take (length + 2))).toNat)

/-- The receiver inside a frame, with the bytes after the start code so far (R170). -/
def Lif.inFrame (l : Lif) (bytes : List Byte) (now : Nat) : Lif :=
  if bytes.length < 2 then { l with receiver := .inside bytes now }
  else
    let length := valueOf (bytes.take 2)
    if !lengthInRange length then l.abandon
    else if bytes.length < length + 4 then { l with receiver := .inside bytes now }
    else if checkMatches length bytes then Lif.frameDone { l with receiver := .hunting } (frameOf length bytes)
    else l.abandon

/-- One character of the in-line (R170). -/
def Lif.character (now : Nat) (l : Lif) (b : Byte) : Lif :=
  match l.receiver with
  | .hunting => if b = 0xC3 then { l with receiver := .inside [] now } else l
  | .inside bytes _ => l.inFrame (bytes ++ [b]) now

/-- Characters in the order they arrive. -/
def State.characters (s : State) (cs : List Byte) : State :=
  if s.lif.listening then s.withLif (fun l => cs.foldl (Lif.character s.now) l) else s

/-- FRAME_RECEIVED (R170, R171; log 24): the characters are taken one by one, and a frame they complete is checked and queued,
answered NOT_READY or discarded. -/
def execFrameReceived (cs : List Byte) (s : State) : Host.Outcome State Fault Refusal := .next (s.characters cs)

/-- START_CODE_RECEIVED (R170): the byte 0xC3 arrives. -/
def execStartCodeReceived (s : State) : Host.Outcome State Fault Refusal := .next (s.characters [0xC3])

/-- LENGTH_OUT_OF_RANGE (R170): two length bytes arrive; a length out of range abandons the frame at once. -/
def execLengthOutOfRange (high low : Byte) (s : State) : Host.Outcome State Fault Refusal := .next (s.characters [high, low])

/-- INTER_CHARACTER_TIMEOUT (R170): inside a frame, the pause is over 10 ms (on the tick, log 27). -/
def execInterCharacterTimeout (s : State) : Host.Outcome State Fault Refusal :=
  match s.lif.receiver with
  | .hunting => .next s
  | .inside _ last => if last + Config.characterGap ≤ s.now then .next (s.withLif Lif.abandon) else .next s

/-- BROKEN_CHARACTER (R170): a frame is abandoned, and LINK_ERROR is set while hunting too. -/
def execBrokenCharacter (s : State) : Host.Outcome State Fault Refusal :=
  if s.lif.phase = .held then .next s else .next (s.withLif Lif.abandon)

/-! ### The out-line -/

/-- The next frame of the out-line (R173): the oldest reply, else the first advisory in delivery order with its summary byte
(log 7), else nothing and the line stays marking. -/
def State.sendNext (s : State) : State :=
  match s.lif.replies with
  | f :: rest => s.withLif (fun l => { l with replies := rest, outLine := some f.onLine })
  | [] =>
    match takeAdvisory s.lif.advisories with
    | none => s.withLif (fun l => { l with outLine := none })
    | some (a, rest) =>
      let s := s.withLif (fun l => { l with advisories := rest })
      s.withLif (fun l =>
        { l with outLine := some (Frame.onLine { kind := a.kind, number := 0, body := s.summaryByte :: a.layout }) })

/-- OUTLINE_FRAME_SEND (R173): the out-line is free. While the reset pin is held it stays marking (R169). -/
def execOutlineFrameSend (s : State) : Host.Outcome State Fault Refusal :=
  if s.lif.phase = .held then .next s else .next s.sendNext

/-! ### Link reset -/

/-- The link reset that begins now; one that begins during the initialisation, or follows such a one, queues no READY (R178;
log 25). One that begins while an earlier one still waits takes its place, so that the two have one end and one READY (log 34). -/
def Lif.newReset (l : Lif) : LinkReset :=
  { marking := false, inInit := decide (l.phase = .initialising) || (l.linkReset.map (·.inInit)).getD false }

/-- LINK_RESET_BEGIN (R177), also while an earlier link reset still waits (log 34). -/
def execLinkResetBegin (s : State) : Host.Outcome State Fault Refusal :=
  if s.lif.listening then
    .next (s.withLif (fun l =>
      { l with
        receiver := .hunting, requests := [], replies := [], advisories := [], linkReset := some l.newReset }))
  else .next s

/-- The link reset ends: the sticky flags are cleared and READY is queued (R177), but for a reset that began during the
initialisation (R178). -/
def Lif.endReset (l : Lif) (r : LinkReset) : Lif :=
  let l := { l with linkReset := none, advisoryLost := false, overrun := false, linkError := false }
  if r.inInit then l else l.offer (.ready .linkReset)

/-- LINK_RESET_END (R177): the in-line returns to marking; a served RESTART still running puts off the end to its completion. -/
def execLinkResetEnd (s : State) : Host.Outcome State Fault Refusal :=
  match s.lif.linkReset with
  | none => .next s
  | some r =>
    if r.marking then .next s
    else if s.lif.serving.isSome then .next (s.withLif (fun l => { l with linkReset := some { r with marking := true } }))
    else .next (s.withLif (fun l => l.endReset r))

/-! ### Power and the reset pin -/

/-- Every memory cleared, with the line rate, the queue of commands and the free counter kept (R178). -/
def State.cleared (s : State) (rate : LineRate) (phase : Phase) : State :=
  { State.reset with
    lif := { State.reset.lif with lineRate := rate, phase := phase }, pending := s.pending, freeCounter := s.freeCounter }

/-- POWER_ON (R169, R178): the straps are read and the initialisation begins; with the reset pin held it waits for the release
(log 21). -/
def execPowerOn (strapA strapB : Bool) (s : State) : Host.Outcome State Fault Refusal :=
  .next (s.cleared (lineRateOf strapA strapB) (if s.lif.phase = .held then .held else .initialising))

/-- RESET_PIN_ASSERT (R169): every record and timer stands abandoned (log 22). -/
def execResetPinAssert (s : State) : Host.Outcome State Fault Refusal := .next (s.cleared s.lif.lineRate .held)

/-- RESET_PIN_RELEASE (R169, R178): the straps are read and the initialisation begins. -/
def execResetPinRelease (strapA strapB : Bool) (s : State) : Host.Outcome State Fault Refusal :=
  if s.lif.phase = .held then .next (s.cleared (lineRateOf strapA strapB) .initialising) else .next s

/-- What LIF holds at the completion of the initialisation (R178): READY is queued even while the in-line is spacing (log 25). -/
def Lif.initDone (l : Lif) : Lif :=
  Lif.addAdvisory
    { l with phase := .running, initElapsed := 0, advisoryLost := false, overrun := false, linkError := false }
    (.ready .powerOn)

/-- INIT_COMPLETE (R178); the part clock starts its count here (R168). -/
def execInitComplete (s : State) : Host.Outcome State Fault Refusal :=
  if s.lif.phase = .initialising then
    .next ((s.withLif Lif.initDone).setTime { s.tmb with clockCount := 0 })
  else .next s

/-! ### STATUS -/

/-- The fields of STATUS (R176; the line rate, log 15). -/
def State.statusFields (s : State) : List Byte :=
  putNumber 2 s.tgm.groups.length ++ putNumber 2 s.ctb.length ++ putNumber 1 s.gpc.gaps.length ++
    putNumber 1 s.lif.advisories.length ++ putNumber 4 s.chu.period.number ++ putNumber 3 s.lif.lineRate.bitsPerSecond

/-- STATUS (R176) as a block's answer. -/
def handleStatus (_body : List Byte) (s : State) : Answer := accept s s.statusFields

/-- The three sticky flags are cleared (R175, R176). -/
def Lif.clearSticky (l : Lif) : Lif := { l with advisoryLost := false, overrun := false, linkError := false }

/-- STATUS (R176): the flags are cleared once the summary byte of its reply is built. -/
def execStatus (number : Byte) (body : List Byte) (s : State) : Host.Outcome State Fault Refusal :=
  if s.lif.takes { kind := 0x40, number := number, body := body } then
    .next ((completed 0x40 number (handleStatus body s.popRequest)).withLif Lif.clearSticky)
  else .next s

/-! ### A kind that names no request -/

/-- UNKNOWN_KIND (R171, R181): the frame is handed to no block. -/
def handleUnknown (_body : List Byte) (s : State) : Answer := refuse s .unknownKind

/-- UNKNOWN_KIND (R181). -/
def execUnknownKind (kind number : Byte) (body : List Byte) (s : State) : Host.Outcome State Fault Refusal :=
  if isRequestKind kind then .next s else serve kind number body handleUnknown s

/-! ### RESTART -/

/-- A circuit freed by RESTART (R38). -/
def Circuit.freed (circ : Circuit) : Circuit :=
  match circ.state with
  | .busy _ => { circ with state := if circ.blockPending then .blocked else .idle, blockPending := false }
  | .guarding _ => { circ with state := if circ.blockPending then .blocked else .idle, blockPending := false }
  | .idle => circ
  | .blocked => circ

/-- A group whose circuits RESTART has freed: its idle count is recounted and its probe cleared (R18, R38, R97). -/
def Group.recounted (grp : Group) (idle : Nat) : Group := { grp with idleCount := idle, probe := none }

/-- Every circuit is freed, and every group recounted. -/
def State.freeCircuits (s : State) : State :=
  let freed := s.setCircuits (s.tgm.circuits.mapValues (fun _ c => c.freed))
  freed.setGroups (s.tgm.groups.mapValues (fun g grp => grp.recounted (freed.idleCircuitCount g)))

/-- Every call record is removed and every circuit freed, as one step (R97, R180). -/
def State.freeCalls (s : State) : State := { s.freeCircuits with ctb := [] }

/-- A group's strain state set afresh: the level is f of the recounted idle count, the window begins, the escalation timer
follows the level (R56). -/
def Group.restarted (grp : Group) (busy now : Nat) : Group :=
  let level := grp.config.raiseLevel grp.idleCount
  Group.beginWindow
    { grp with
      level := level, escalationTimer := if level = 3 then some (now + msOfSeconds grp.config.te) else none } busy now

/-- RESTART reaches one group, with its advisory and its fall report (R56). -/
def State.restartGroup (s : State) (g : Nat) : State :=
  match s.group? g with
  | none => s
  | some grp =>
    (s.putGroup g (grp.restarted (s.busyCount g) s.now)).levelChanged g grp (grp.restarted (s.busyCount g) s.now)

/-- The MANUAL entries of the gap table, which RESTART keeps (R125). -/
def manualGaps (t : Table Gap) : Table Gap := t.filter (fun e => decide (e.2.origin = .manual))

/-- The number of AUTO entries. -/
def autoCount (t : Table Gap) : Nat := (t.filter (fun e => decide (e.2.origin = .auto))).length

/-- The AUTO gaps that a step from one table to another removed, as RESTART counts those of its fall reports: a free choice (R180;
log 6). -/
def fallRemovals (before after : Table Gap) : Nat :=
  if Config.restartCountsFallRemovals then autoCount before - autoCount after else 0

/-- A group whose effect of R56 is still to come when the AUTO gaps are removed: an escalation expiry it had pending does not
occur any more, since every AUTO gap is gone after a RESTART (R56, R125; log 26). -/
def Group.escalationEnded (left : List RestartEffect) (g : Nat) (grp : Group) : Group :=
  if left.contains (.resetGroup g) then { grp with escalationTimer := none } else grp

/-- The AUTO gaps are removed without a GAP_OFF (R125), with the effects still to come. -/
def State.purgeGaps (s : State) (left : List RestartEffect) : State :=
  (s.setGaps (manualGaps s.gpc.gaps)).setGroups (s.tgm.groups.mapValues (Group.escalationEnded left))

/-- The place of the removal of the AUTO gaps among the fall reports of n groups, a free choice (R125; log 5). -/
def State.purgePoint (s : State) : Nat := Config.restartPurgePoint s.freeCounter % (s.tgm.groups.length + 1)

/-- The effects of a RESTART in their order, the groups in rising index (R56, R180), the gaps removed at the free point. -/
def State.restartPlan (s : State) : List RestartEffect :=
  .freeCalls :: ((s.tgm.groups.keys.take s.purgePoint).map .resetGroup ++
    .purgeGaps :: ((s.tgm.groups.keys.drop s.purgePoint).map .resetGroup ++ [.announce]))

/-- The RESTART in service as it now stands. -/
def State.withServing (s : State) (v : Serving) : State := s.withLif (fun l => { l with serving := some v })

/-- One effect of a RESTART, with what is left after it (R179, R180). -/
def State.takeEffect (s : State) (v : Serving) (e : RestartEffect) (left : List RestartEffect) : State :=
  match e with
  | .freeCalls => s.freeCalls.withServing { v with calls := s.ctb.length, left := left }
  | .resetGroup g =>
    (s.restartGroup g).withServing
      { v with gaps := v.gaps + fallRemovals s.gpc.gaps (s.restartGroup g).gpc.gaps, left := left }
  | .purgeGaps => (s.purgeGaps left).withServing { v with gaps := v.gaps + autoCount s.gpc.gaps, left := left }
  | .announce => (s.withServing { v with left := left }).offer (.restarted v.calls v.gaps)

/-- The next effect of the RESTART in service, if one is left. -/
def State.nextEffect (s : State) : State :=
  match s.lif.serving with
  | none => s
  | some v =>
    match v.left with
    | [] => s
    | e :: left => s.takeEffect v e left

/-- The next n effects of the RESTART in service. -/
def State.runEffects : Nat → State → State
  | 0, s => s
  | n + 1, s => State.runEffects n s.nextEffect

/-- How many effects of the RESTART in service are left. -/
def State.effectsLeft (s : State) : Nat := (s.lif.serving.map (fun v => v.left.length)).getD 0

/-- The RESTART in service goes on by a free number of its effects, from none to all that are left (R180; log 26). -/
def State.goesOn (s : State) : State :=
  { State.runEffects (Config.restartPace s.freeCounter % (s.effectsLeft + 1)) s with freeCounter := s.freeCounter + 1 }

/-- RESTART as taken from the queue: the advisory queue is emptied, step 1 of R180, and its effects are still to come. -/
def State.restartTaken (s : State) (number : Byte) : State :=
  { s.withLif (fun l =>
      { l with
        advisories := [],
        serving := some { number := number, calls := 0, gaps := 0, elapsed := 0, left := s.restartPlan } }) with
    freeCounter := s.freeCounter + 1 }

/-- A RESTART with this request number is in service. -/
def Lif.servesRestart (l : Lif) (number : Byte) : Bool := (l.serving.map (·.number)).any (fun n => decide (n = number))

/-- RESTART (R179, R180): the request is taken and its effects begin to fall; given again while it is in service, it goes on by
more of them (log 26). -/
def execRestart (number : Byte) (body : List Byte) (s : State) : Host.Outcome State Fault Refusal :=
  if s.lif.takes { kind := 0x33, number := number, body := body } then .next (s.popRequest.restartTaken number).goesOn
  else if s.lif.servesRestart number then .next s.goesOn
  else .next s

/-- The reply of a completed RESTART, with the summary byte built now; a link reset begun meanwhile discards it (R177, R180). -/
def State.replyRestart (s : State) (v : Serving) : State :=
  if s.lif.linkReset.isSome then s
  else s.reply 0x33 v.number (Result.ok.code :: (putNumber 2 v.calls ++ putNumber 1 v.gaps))

/-- A link reset whose line is already marking ends at the completion of the request served across it (R177). -/
def Lif.endResetIfMarking (l : Lif) : Lif :=
  match l.linkReset with
  | none => l
  | some r => if r.marking then l.endReset r else l

/-- A RESTART with no effect left is complete: its reply, and the end of a link reset that waited for it (R177, R180). -/
def State.completeRestart (s : State) : State :=
  match s.lif.serving with
  | none => s
  | some v => (s.replyRestart v).withLif (fun l => Lif.endResetIfMarking { l with serving := none })

/-- RESTART_COMPLETION (R180): the effects still left fall, and the RESTART is complete. -/
def execRestartCompletion (s : State) : Host.Outcome State Fault Refusal :=
  .next (State.runEffects s.effectsLeft s).completeRestart

end Sys2Proof.Machine
end

