-- ==== Sys2Proof/Machine/Dispatch.lean ====
section
/-! DEFINITION. Which meaning each command has: one arm per row of spec/opcode_table.json. -/

namespace Sys2Proof.Machine

def exec (i : Instr) (s : State) : Host.Outcome State Fault Refusal :=
  match i with
  | .setPrefix number body => Sys2Proof.Machine.execSetPrefix number body s
  | .delPrefix number body => Sys2Proof.Machine.execDelPrefix number body s
  | .setPlan number body => Sys2Proof.Machine.execSetPlan number body s
  | .setGroup number body => Sys2Proof.Machine.execSetGroup number body s
  | .delGroup number body => Sys2Proof.Machine.execDelGroup number body s
  | .setCarrier number body => Sys2Proof.Machine.execSetCarrier number body s
  | .delCarrier number body => Sys2Proof.Machine.execDelCarrier number body s
  | .loadTariff number body => Sys2Proof.Machine.execLoadTariff number body s
  | .scheduleTariff number body => Sys2Proof.Machine.execScheduleTariff number body s
  | .cancelTariff number body => Sys2Proof.Machine.execCancelTariff number body s
  | .setGap number body => Sys2Proof.Machine.execSetGap number body s
  | .delGap number body => Sys2Proof.Machine.execDelGap number body s
  | .setAutogap number body => Sys2Proof.Machine.execSetAutogap number body s
  | .setClock number body => Sys2Proof.Machine.execSetClock number body s
  | .setPeriod number body => Sys2Proof.Machine.execSetPeriod number body s
  | .seek number body => Sys2Proof.Machine.execSeek number body s
  | .progress number body => Sys2Proof.Machine.execProgress number body s
  | .answer number body => Sys2Proof.Machine.execAnswer number body s
  | .fail number body => Sys2Proof.Machine.execFail number body s
  | .clear number body => Sys2Proof.Machine.execClear number body s
  | .service number body => Sys2Proof.Machine.execService number body s
  | .block number body => Sys2Proof.Machine.execBlock number body s
  | .unblock number body => Sys2Proof.Machine.execUnblock number body s
  | .restart number body => Sys2Proof.Machine.execRestart number body s
  | .status number body => Sys2Proof.Machine.execStatus number body s
  | .readPrefix number body => Sys2Proof.Machine.execReadPrefix number body s
  | .readPlan number body => Sys2Proof.Machine.execReadPlan number body s
  | .readGroup number body => Sys2Proof.Machine.execReadGroup number body s
  | .readCircuit number body => Sys2Proof.Machine.execReadCircuit number body s
  | .readCall number body => Sys2Proof.Machine.execReadCall number body s
  | .readCarrier number body => Sys2Proof.Machine.execReadCarrier number body s
  | .readTariff number body => Sys2Proof.Machine.execReadTariff number body s
  | .readGaps number body => Sys2Proof.Machine.execReadGaps number body s
  | .collect number body => Sys2Proof.Machine.execCollect number body s
  | .close number body => Sys2Proof.Machine.execClose number body s
  | .unknownKind kind number body => Sys2Proof.Machine.execUnknownKind kind number body s
  | .frameReceived characters => Sys2Proof.Machine.execFrameReceived characters s
  | .interCharacterTimeout => Sys2Proof.Machine.execInterCharacterTimeout s
  | .brokenCharacter => Sys2Proof.Machine.execBrokenCharacter s
  | .outlineFrameSend => Sys2Proof.Machine.execOutlineFrameSend s
  | .linkResetBegin => Sys2Proof.Machine.execLinkResetBegin s
  | .linkResetEnd => Sys2Proof.Machine.execLinkResetEnd s
  | .powerOn strapA strapB => Sys2Proof.Machine.execPowerOn strapA strapB s
  | .resetPinAssert => Sys2Proof.Machine.execResetPinAssert s
  | .resetPinRelease strapA strapB => Sys2Proof.Machine.execResetPinRelease strapA strapB s
  | .initComplete => Sys2Proof.Machine.execInitComplete s
  | .guardExpiry circuit => Sys2Proof.Machine.execGuardExpiry circuit s
  | .windowExpiry group => Sys2Proof.Machine.execWindowExpiry group s
  | .escalationExpiry group => Sys2Proof.Machine.execEscalationExpiry group s
  | .tsExpiry group => Sys2Proof.Machine.execTsExpiry group s
  | .tqExpiry group => Sys2Proof.Machine.execTqExpiry group s
  | .twExpiry group => Sys2Proof.Machine.execTwExpiry group s
  | .seizureSupervisionExpiry tag => Sys2Proof.Machine.execSeizureSupervisionExpiry tag s
  | .chargeStepExpiry tag => Sys2Proof.Machine.execChargeStepExpiry tag s
  | .gapDurationExpiry slot => Sys2Proof.Machine.execGapDurationExpiry slot s
  | .periodTimerExpiry => Sys2Proof.Machine.execPeriodTimerExpiry s
  | .partClockRise => Sys2Proof.Machine.execPartClockRise s
  | .startCodeReceived => Sys2Proof.Machine.execStartCodeReceived s
  | .lengthOutOfRange high low => Sys2Proof.Machine.execLengthOutOfRange high low s
  | .restartCompletion => Sys2Proof.Machine.execRestartCompletion s

end Sys2Proof.Machine
end

