-- ==== Sys2Proof/Machine/Time.lean ====
section
/-! DEFINITION. TMB: one 1 ms tick, and the expiries it brings (log 2). A tick that reaches a time of expiry puts that expiry's
command into the queue, so that no further tick passes before it is taken. -/

namespace Sys2Proof.Machine

/-- A command when its time has come. -/
def whenDue (c : Instr) (due : Bool) : List Instr := if due then [c] else []

/-- The expiries due of a group (R18). -/
def Group.dueEvents (now g : Nat) (grp : Group) : List Instr :=
  whenDue (.windowExpiry g) (Timer.due grp.windowTimer now) ++
    whenDue (.escalationExpiry g) (Timer.due grp.escalationTimer now) ++
    whenDue (.tsExpiry g) (Timer.due grp.tsTimer now) ++ whenDue (.tqExpiry g) (Timer.due grp.tqTimer now) ++
    whenDue (.twExpiry g) (Timer.due grp.twTimer now)

/-- The expiries due of a call (R83, R85). -/
def Call.dueEvents (now tag : Nat) (c : Call) : List Instr :=
  whenDue (.seizureSupervisionExpiry tag) (Timer.due c.supervision now) ++
    whenDue (.chargeStepExpiry tag) (Timer.due c.chargeStep now)

/-- The events of a RESTART in service: while effects are left it may go on among the expiries of the tick, and at its bound it is
complete (R180; log 2, log 26). -/
def Serving.dueEvents (v : Serving) : List Instr :=
  whenDue (.restart v.number []) (!v.left.isEmpty) ++
    whenDue .restartCompletion (decide (Config.restartBound ≤ v.elapsed))

/-- The events of LIF that are due: the longest pause inside a frame, the bound of the initialisation and those of a RESTART in
service (R170, R178, R180). -/
def Lif.dueEvents (now : Nat) (l : Lif) : List Instr :=
  whenDue .interCharacterTimeout
      (match l.receiver with
       | .hunting => false
       | .inside _ last => decide (last + Config.characterGap < now)) ++
    whenDue .initComplete (decide (l.phase = .initialising) && decide (Config.initBound ≤ l.initElapsed)) ++
    l.serving.toList.flatMap Serving.dueEvents

/-- Every event whose time has come, block by block. -/
def State.dueEvents (s : State) : List Instr :=
  s.tgm.circuits.flatMap (fun e => whenDue (.guardExpiry e.1) (Timer.due e.2.state.expiry? s.now)) ++
    s.tgm.groups.flatMap (fun e => e.2.dueEvents s.now e.1) ++ s.ctb.flatMap (fun e => e.2.dueEvents s.now e.1) ++
    s.gpc.gaps.flatMap (fun e => whenDue (.gapDurationExpiry e.1) (Timer.due e.2.expiry s.now)) ++
    whenDue .periodTimerExpiry (Timer.due s.chu.period.timer s.now) ++ whenDue .partClockRise s.riseDue ++
    s.lif.dueEvents s.now

/-- Events in a free order: each time, the free value picks which of those left comes next (log 3). The first argument bounds
the recursion. -/
def arrange : Nat → Nat → List Instr → List Instr
  | 0, _, events => events
  | _ + 1, _, [] => []
  | _ + 1, _, [c] => [c]
  | n + 1, counter, events =>
    let i := Config.expiryPick counter % events.length
    (events[i]?).toList ++ arrange n (counter + 1) (events.eraseIdx i)

/-- Counts a ms of a RESTART in service (R180). -/
def Serving.tick (v : Serving) : Serving := { v with elapsed := v.elapsed + 1 }

/-- LIF counts a ms: of the initialisation and of a RESTART in service. -/
def Lif.tick (l : Lif) : Lif :=
  { l with
    initElapsed := if l.phase = .initialising then l.initElapsed + 1 else l.initElapsed,
    serving := l.serving.map Serving.tick }

/-- TMB counts a ms; the part clock's count runs from the end of the initialisation (R164, R168). -/
def Tmb.tick (t : Tmb) (running : Bool) : Tmb :=
  { t with now := t.now + 1, clockCount := if running then t.clockCount + 1 else t.clockCount }

/-- The state a ms later, before the expiries are queued. -/
def State.advanced (s : State) : State :=
  { s with lif := s.lif.tick, tmb := s.tmb.tick (decide (s.lif.phase = .running)) }

/-- One tick: the time moves on, and the events it brings wait in the queue. While the reset pin is held every timer stands
abandoned and nothing runs (R169). -/
def State.tick (s : State) : State :=
  if s.lif.phase = .held then s
  else
    { s.advanced with
      pending := arrange s.advanced.dueEvents.length s.freeCounter s.advanced.dueEvents,
      freeCounter := s.freeCounter + s.advanced.dueEvents.length }

end Sys2Proof.Machine
end

