-- ==== Sys2Proof/Safety.lean ====
section
/-! DEFINITION. What the statements about the part speak of: the laws that the manual says the part keeps, each decidable on a given
state, and a reader's view of a served or a refused request, of the clamps of R20 and of a RESTART just taken. -/

namespace Sys2Proof.Machine

/-! ### Canonical tables -/

/-- The prefix table stands in table order, so no two entries have equal strings (R1, R5). -/
def prefixesOrdered : List PrefixEntry → Bool
  | [] => true
  | e :: t => t.all (fun e' => digitsBefore e.digits e'.digits) && prefixesOrdered t

/-- No two gap entries have the same key (R112). -/
def gapKeysDistinct : Table Gap → Bool
  | [] => true
  | e :: t => t.all (fun e' => decide (e'.2.key ≠ e.2.key)) && gapKeysDistinct t

/-- Every table is in its canonical form: one record for a key (R1, R77, R112). -/
abbrev Canonical (s : State) : Prop :=
  prefixesOrdered s.rsl.prefixes = true ∧ s.rsl.plans.wf = true ∧ s.tgm.groups.wf = true ∧ s.tgm.circuits.wf = true ∧
    s.ctb.wf = true ∧ s.chu.accounts.wf = true ∧ s.chu.tariffs.wf = true ∧ s.gpc.gaps.wf = true ∧
    gapKeysDistinct s.gpc.gaps = true

/-! ### The queues of LIF -/

/-- The three queues stay within their capacities (R171, R172, R174); a RESTART in service has room for its reply, and nothing is
served or queued before the part runs (R172, R178). -/
abbrev QueuesBounded (s : State) : Prop :=
  s.lif.requests.length ≤ 8 ∧ s.lif.replies.length ≤ 8 ∧ s.lif.advisories.length ≤ 32 ∧
    (s.lif.serving.isSome = true → s.lif.replies.length ≤ 7 ∧ s.lif.phase = .running) ∧
    (s.lif.phase ≠ .running → s.lif.requests = [])

/-- The group of a STRAIN advisory. -/
def Advisory.strainGroup : Advisory → Option Nat
  | .strain g _ => some g
  | _ => none

/-- No group has two STRAIN advisories queued (R174). -/
abbrev OneStrainPerGroup (s : State) : Prop := (s.lif.advisories.filterMap Advisory.strainGroup).Nodup

/-! ### Strain -/

/-- A group's level is never below f of its idle count (R39), and what keeps it so: a level is 0..3, the window's minimum is never
above the idle count (R43, R45), and the thresholds are ordered (R17). -/
abbrev Group.strainLaw (grp : Group) : Prop :=
  grp.config.raiseLevel grp.idleCount ≤ grp.level ∧ grp.level ≤ 3 ∧ grp.window.minIdle ≤ grp.idleCount ∧
    grp.config.i3 ≤ grp.config.i2 ∧ grp.config.i2 ≤ grp.config.i1

/-- The strain law of every configured group (R39). -/
abbrev StrainLaw (s : State) : Prop := ∀ e ∈ s.tgm.groups, e.2.strainLaw

/-! ### References -/

/-- Every prefix table entry names a configured plan (R6, R16). -/
abbrev PrefixesNamePlans (s : State) : Prop := ∀ e ∈ s.rsl.prefixes, (s.plan? e.plan).isSome = true

/-- Every configured group names a configured carrier and a configured tariff class (R126, R147, R159). -/
abbrev GroupsNameConfigured (s : State) : Prop :=
  ∀ e ∈ s.tgm.groups,
    (s.account? e.2.config.carrier).isSome = true ∧ (s.tariff? e.2.config.tariffClass).isSome = true

/-- A class holds a schedule only while it holds a pending set (R159), and the schedule lies ahead of the part clock (R161, R164,
R165). -/
abbrev TariffClass.scheduleLaw (clock : Nat) (t : TariffClass) : Prop :=
  t.schedule.isSome = true → t.pendingSet.isSome = true ∧ t.reached clock = false

/-- The law of every class's schedule, and the part clock within its range (R159, R164). -/
abbrev SchedulesAhead (s : State) : Prop :=
  (∀ e ∈ s.chu.tariffs, e.2.scheduleLaw s.tmb.clock) ∧ s.tmb.clock ≤ Config.max32

/-! ### Circuits and calls -/

/-- The owner of an owned circuit is a configured group, in whose range the circuit lies (R17, R25). -/
abbrev CircuitsOwned (s : State) : Prop :=
  ∀ e ∈ s.tgm.circuits, (s.group? e.2.owner).any (fun grp => grp.config.inRange e.1) = true

/-- A configured group owns every circuit of its range (R17), and its idle count is the number of them in IDLE (R18). -/
abbrev GroupsOwnRanges (s : State) : Prop :=
  ∀ e ∈ s.tgm.groups,
    e.2.idleCount = s.idleCircuitCount e.1 ∧
      (∀ i ∈ List.range' e.2.config.firstCircuit e.2.config.circuitCount,
        (s.circuit? i).any (fun c => decide (c.owner = e.1)) = true)

/-- The circuit of a live call is BUSY with its tag, and belongs to the call's group (R77). -/
def State.holdsCircuit (s : State) (tag : Nat) (c : Call) : Bool :=
  (s.circuit? c.circuit).any (fun circ => decide (circ.owner = c.group) && decide (circ.state = .busy tag))

/-- The records that a live call's charges and its plan's operations read are present (R16, R126), and its tariff class is its
group's (R126). -/
def State.hasInputs (s : State) (c : Call) : Bool :=
  (s.plan? c.plan).isSome && (s.account? c.incoming).isSome &&
    (s.group? c.group).any (fun grp => decide (grp.config.tariffClass = c.tariffClass))

/-- Every live call has its circuit and its inputs, and a tag in range (R77, R126). -/
abbrev CallsHoldCircuits (s : State) : Prop :=
  ∀ e ∈ s.ctb, s.holdsCircuit e.1 e.2 = true ∧ s.hasInputs e.2 = true ∧ e.1 ≠ 0

/-- The live call that a BUSY circuit names has that circuit (R77). -/
def State.circuitNamed (s : State) (i : Nat) (c : Circuit) : Bool :=
  match c.state with
  | .busy tag => (s.call? tag).any (fun call => decide (call.circuit = i))
  | _ => true

/-- Every BUSY circuit is named by the live call whose tag it carries (R77). -/
abbrev BusyCircuitsNamed (s : State) : Prop := ∀ e ∈ s.tgm.circuits, s.circuitNamed e.1 e.2 = true

/-- A group's probe is a live call of the group with its probe flag set, in REOPEN_FIRST or REOPEN_SECOND (R102). -/
def State.probeLaw (s : State) (g : Nat) (grp : Group) : Bool :=
  match grp.probe with
  | none => true
  | some tag =>
    (s.call? tag).any (fun c => decide (c.group = g) && c.probe) &&
      (decide (grp.service = .reopenFirst) || decide (grp.service = .reopenSecond))

/-- A call with its probe flag set is its group's probe (R102). -/
def State.probeNamed (s : State) (tag : Nat) (c : Call) : Bool :=
  !c.probe || (s.group? c.group).any (fun grp => decide (grp.probe = some tag))

/-- The probe field of a group and the probe flag of a call always name each other (R102). -/
abbrev ProbesPaired (s : State) : Prop :=
  (∀ e ∈ s.tgm.groups, s.probeLaw e.1 e.2 = true) ∧ (∀ e ∈ s.ctb, s.probeNamed e.1 e.2 = true)

/-- The timer that runs is the one of the call's state (R78): supervision in SEIZING alone, the charge step in ANSWERED alone. -/
abbrev CallTimersLaw (s : State) : Prop :=
  ∀ e ∈ s.ctb,
    (e.2.supervision.isSome = true ↔ e.2.state = .seizing) ∧ (e.2.chargeStep.isSome = true ↔ e.2.state = .answered)

/-- The laws that tie the records of the blocks together (R16, R17, R18, R25, R77, R78, R102, R126). -/
abbrev RecordLaws (s : State) : Prop :=
  Canonical s ∧ PrefixesNamePlans s ∧ GroupsNameConfigured s ∧ CircuitsOwned s ∧ GroupsOwnRanges s ∧
    CallsHoldCircuits s ∧ BusyCircuitsNamed s ∧ ProbesPaired s ∧ CallTimersLaw s

/-! ### Ranges of stored values -/

/-- Every accumulator, count and total stays within its largest value (R139, R140). -/
abbrev Bank.inRange (b : Bank) : Prop :=
  b.payable ≤ Config.maxAccumulator ∧ b.receivable ≤ Config.maxAccumulator ∧ b.steps ≤ Config.max32 ∧
    b.handovers ≤ Config.max32 ∧ b.transits ≤ Config.max32

/-- The saturating fields of the accounts and of the live calls (R139, R140, R144). -/
abbrev TotalsInRange (s : State) : Prop :=
  (∀ e ∈ s.chu.accounts, e.2.running.inRange ∧ e.2.closed.bank.inRange) ∧
    (∀ e ∈ s.ctb, e.2.payable ≤ Config.maxTotal ∧ e.2.receivable ≤ Config.maxTotal ∧ e.2.steps ≤ Config.max32)

/-- The period timer does not run while a hold is held (R150, R152), and the period number is 32 bits (R149). -/
abbrev PeriodLaw (s : State) : Prop :=
  (s.chu.period.held = true → s.chu.period.timer = none) ∧ s.chu.period.number ≤ Config.max32 ∧
    s.chu.period.length ≤ 1440

/-- Every gap entry stands in a slot 0..63 with an interval of 100..60,000 ms; an AUTO entry is keyed by a plan and has no expiry;
the AUTO_GAP interval is in its range (R112, R118). -/
abbrev GapLaw (s : State) : Prop :=
  (∀ e ∈ s.gpc.gaps, e.1 < 64 ∧ 100 ≤ e.2.interval ∧ e.2.interval ≤ 60000 ∧
    (e.2.origin = .auto → e.2.key.digits? = none ∧ e.2.expiry = none)) ∧
  100 ≤ s.gpc.autoInterval ∧ s.gpc.autoInterval ≤ 60000

/-! ### Requests, as a reader sees them -/

/-- The command of a request kind (R181). -/
def requestCommand (kind number : Byte) (body : List Byte) : Instr :=
  match kind.toNat with
  | 0x01 => .setPrefix number body
  | 0x02 => .delPrefix number body
  | 0x03 => .setPlan number body
  | 0x04 => .setGroup number body
  | 0x05 => .delGroup number body
  | 0x06 => .setCarrier number body
  | 0x07 => .delCarrier number body
  | 0x08 => .loadTariff number body
  | 0x09 => .scheduleTariff number body
  | 0x0A => .cancelTariff number body
  | 0x0B => .setGap number body
  | 0x0C => .delGap number body
  | 0x0D => .setAutogap number body
  | 0x0E => .setClock number body
  | 0x0F => .setPeriod number body
  | 0x20 => .seek number body
  | 0x21 => .progress number body
  | 0x22 => .answer number body
  | 0x23 => .fail number body
  | 0x24 => .clear number body
  | 0x30 => .service number body
  | 0x31 => .block number body
  | 0x32 => .unblock number body
  | 0x33 => .restart number body
  | 0x40 => .status number body
  | 0x41 => .readPrefix number body
  | 0x42 => .readPlan number body
  | 0x43 => .readGroup number body
  | 0x44 => .readCircuit number body
  | 0x45 => .readCall number body
  | 0x46 => .readCarrier number body
  | 0x47 => .readTariff number body
  | 0x48 => .readGaps number body
  | 0x49 => .collect number body
  | 0x4A => .close number body
  | _ => .unknownKind kind number body

/-- The engine takes a frame of a kind, a number and a body now: the part runs, no link reset is in progress, no RESTART is in
service, the reply queue has room, and the frame is the oldest of the request queue (R171, R172, R177, R180). -/
abbrev Takes (s : State) (kind number : Byte) (body : List Byte) : Prop :=
  s.lif.phase = .running ∧ s.lif.linkReset = none ∧ s.lif.serving = none ∧ s.lif.replies.length < 8 ∧
    s.lif.requests.head? = some { kind := kind, number := number, body := body }

/-- What LIF holds once a request has been served (R172): its frame has left the queue, the advisories that its blocks offered
were offered in order, and one reply has joined, with the summary byte of the state as it then stands and the fields given. -/
def Served (s t : State) (kind number : Byte) (offered : List Advisory) (fields : List Byte) : Prop :=
  t.lif =
    { offered.foldl Lif.offer s.lif with
      requests := s.lif.requests.tail,
      replies := s.lif.replies ++ [{ kind := kind ||| 0x80, number := number, body := t.summaryByte :: fields }] }

/-- A request is refused: it is answered at once with the result and fields given, no block offers an advisory, and no record
changes (R172, R181, spec/00_scope.md 4.3). -/
def Refused (s : State) (kind number : Byte) (body fields : List Byte) : Prop :=
  ∃ t, exec (requestCommand kind number body) s = .next t ∧ Served s t kind number [] fields ∧ t = { s with lif := t.lif }

/-- The first condition of a list that holds decides the refusal, as the tables of checks have it: each condition stands with the
result and fields it is answered with. -/
def RefusedByFirst (s : State) (kind number : Byte) (body : List Byte) : List (Prop × List Byte) → Prop
  | [] => True
  | (condition, fields) :: later =>
    (condition → Refused s kind number body fields) ∧ (¬ condition → RefusedByFirst s kind number body later)

/-- The bytes that a digit string at an offset of a body announces: its count byte and the digits two to a byte (R182). -/
def digitsSize (body : List Byte) (offset : Nat) : Nat := 1 + (((body[offset]?).getD 0).toNat + 1) / 2

/-- The bytes of a gap key as a body announces it: its kind, then a digit string or a plan index (R113; a kind that is neither
announces no key, log 19). -/
def gapKeySize (body : List Byte) : Nat :=
  if body.head? = some 0 then 1 + digitsSize body 1 else if body.head? = some 1 then 3 else 1

/-- A digit string is out of a range of lengths, or holds a value that is no digit (R3, R57, R113). -/
def BadDigits (low high : Nat) (ds : Digits) : Prop := ds.length < low ∨ high < ds.length ∨ ∃ d ∈ ds, 9 < d

/-- A gap key as sent that check 2 of R113 refuses. -/
def RawKey.bad (raw : RawKey) : Prop := raw = .other ∨ ∃ ds, raw = .digits ds ∧ BadDigits 1 12 ds

/-- The gap table has no entry with a key as sent. -/
def RawKey.absent (s : State) (raw : RawKey) : Prop :=
  (∀ ds, raw = .digits ds → findGap (.digits ds) s.gpc.gaps = none) ∧
    (∀ p, raw = .plan p → findGap (.plan p) s.gpc.gaps = none)

/-- The fields of a group as SET_GROUP stores them: each tuning field outside its range takes the nearest value inside it, in the
order of R20. -/
def GroupConfig.storedAs (sent stored : GroupConfig) : Prop :=
  stored =
    { sent with
      reservation := if 63 < sent.reservation then 63 else sent.reservation,
      hysteresis := if 63 < sent.hysteresis then 63 else sent.hysteresis,
      i1 := if 480 < sent.i1 then 480 else sent.i1,
      i2 := min stored.i1 (if 480 < sent.i2 then 480 else sent.i2),
      i3 := min stored.i2 (if 480 < sent.i3 then 480 else sent.i3),
      windowLength := if 3600 < sent.windowLength then 3600 else sent.windowLength,
      seizureTime :=
        if sent.seizureTime < 1000 then 1000 else if 60000 < sent.seizureTime then 60000 else sent.seizureTime,
      guardTime := if 2000 < sent.guardTime then 2000 else sent.guardTime,
      suspensionCount :=
        if sent.suspensionCount = 0 then 1 else if 15 < sent.suspensionCount then 15 else sent.suspensionCount,
      ts := if sent.ts = 0 then 1 else if 600 < sent.ts then 600 else sent.ts,
      te := if sent.te = 0 then 1 else if 600 < sent.te then 600 else sent.te,
      tq := if sent.tq = 0 then 1 else if 60 < sent.tq then 60 else sent.tq,
      tw := max (stored.tq + 1) (if sent.tw < 10 then 10 else if 3600 < sent.tw then 3600 else sent.tw) }

/-- A RESTART just taken from the queue: its frame has left, the advisory queue is empty, and its effects are all to come, the
removal of the AUTO gaps behind the first p groups (R180; log 5). -/
def restartBegun (s : State) (number : Byte) (p : Nat) : State :=
  { s with
    lif := { s.lif with
      requests := s.lif.requests.tail, advisories := [],
      serving := some
        { number := number, calls := 0, gaps := 0, elapsed := 0,
          left := .freeCalls :: ((s.tgm.groups.keys.take p).map .resetGroup ++
            .purgeGaps :: ((s.tgm.groups.keys.drop p).map .resetGroup ++ [.announce])) } },
    freeCounter := s.freeCounter + 1 }

/-- A group after the raise test (R41, R51). -/
def Group.tested (grp : Group) (now : Nat) : Group :=
  { grp with
    level := max grp.level (grp.config.raiseLevel grp.idleCount),
    escalationTimer :=
      if grp.level < 3 ∧ grp.config.raiseLevel grp.idleCount = 3 then some (now + grp.config.te * 1000)
      else grp.escalationTimer }

/-- A key as sent names a key of the gap table: digits 1..12, each 0..9, or the index of a configured plan (R113). -/
def RawKey.names (s : State) (raw : RawKey) (key : GapKey) : Prop :=
  match raw with
  | .digits ds => key = .digits ds ∧ digitsIn 1 12 ds = true
  | .plan p => key = .plan p ∧ p < 1024 ∧ (s.plan? p).isSome = true
  | .other => False

/-- The STRAIN advisory of a change of level, and none without one (R49). -/
def strainOffered (g before after : Nat) : List Advisory := if after = before then [] else [.strain g after]

/-- The advisories of a removal of gaps by a fall report: one for each plan that names the group and has an AUTO entry, in rising
plan index (R121). -/
def gapOffsOffered (s : State) (g : Nat) : List Advisory :=
  (s.rsl.plans.filter (fun p =>
    p.2.choices.contains g &&
      s.gpc.gaps.any (fun e => decide (e.2.key = .plan p.1) && decide (e.2.origin = .auto)))).map
    (fun p => .gapOff p.1 g)

/-- The gap entries that a fall report of a group leaves: all but the AUTO ones on plans that name the group (R121). -/
def gapsAfterFall (s : State) (g : Nat) : Table Gap :=
  s.gpc.gaps.filter (fun e =>
    !(decide (e.2.origin = .auto) &&
      s.rsl.plans.any (fun p => p.2.choices.contains g && decide (e.2.key = .plan p.1))))

end Sys2Proof.Machine
end

