-- ==== Sys2Proof/Certificates/Slice0/Obligations.lean ====
section
/-! DEFINITION. The statements about the part, for the provers: the machine and its queue of commands, the control link, and the
rules of each block. A request's completion statements give the whole next state; the conditions of a refusal are stated beside
them. -/

section
open Sys2Proof Sys2Proof.Machine

/-! ### The machine -/

/-- A step takes the command at the front of the queue and is that command's effect on the state with the queue's rest. -/
def Obligations.StepRunsFrontCommand : Prop :=
  ∀ (c : Instr) (rest : List Instr) (s : State),
    step { s with pending := c :: rest } = exec c { s with pending := rest }

/-- On an empty queue a step is one 1 ms tick (the model's choice, log 2): the tick, the ms of an initialisation and of a RESTART in
service (R178, R180) and, while the part runs, the count toward the next rise of the part clock (R164, R168) go up by one; no other
field of LIF and no record changes, and the expiries due wait in the queue, each once, in an order left free (log 3). While the reset
pin is held nothing moves (R169; log 22). -/
def Obligations.EmptyQueueTicks : Prop :=
  ∀ s : State, s.pending = [] →
    (s.lif.phase = .held → step s = .next s) ∧
    (s.lif.phase ≠ .held → ∃ t, step s = .next t ∧
      t.tmb =
        { now := s.tmb.now + 1, clock := s.tmb.clock,
          clockCount := if s.lif.phase = .running then s.tmb.clockCount + 1 else s.tmb.clockCount } ∧
      t.lif =
        { s.lif with
          initElapsed := if s.lif.phase = .initialising then s.lif.initElapsed + 1 else s.lif.initElapsed,
          serving := s.lif.serving.map (fun v => { v with elapsed := v.elapsed + 1 }) } ∧
      t.rsl = s.rsl ∧ t.tgm = s.tgm ∧ t.ctb = s.ctb ∧ t.chu = s.chu ∧ t.gpc = s.gpc ∧
      List.Perm t.pending t.dueEvents)

/-- Which expiries are due: those of the running timers whose time has come (R30, R46, R51, R84, R86, R99, R114, R150) and the rise
of the part clock at its 1,000th tick (R164). The events of LIF are the model's choice: the tick forces INIT_COMPLETE at 40 ms and
RESTART_COMPLETION at 25 ms, where R178 and R180 say only "at most" and "within" (log 2), forces the pause of R170 when it is above 10
ticks (log 27), and lets a RESTART in service go on while effects of it are left (log 26). -/
def Obligations.TimersExpireWhenDue : Prop :=
  ∀ s : State,
    (∀ i, .guardExpiry i ∈ s.dueEvents ↔
      ∃ c e, (i, c) ∈ s.tgm.circuits ∧ c.state = .guarding e ∧ e ≤ s.tmb.now) ∧
    (∀ g, .windowExpiry g ∈ s.dueEvents ↔
      ∃ grp e, (g, grp) ∈ s.tgm.groups ∧ grp.windowTimer = some e ∧ e ≤ s.tmb.now) ∧
    (∀ g, .escalationExpiry g ∈ s.dueEvents ↔
      ∃ grp e, (g, grp) ∈ s.tgm.groups ∧ grp.escalationTimer = some e ∧ e ≤ s.tmb.now) ∧
    (∀ g, .tsExpiry g ∈ s.dueEvents ↔
      ∃ grp e, (g, grp) ∈ s.tgm.groups ∧ grp.tsTimer = some e ∧ e ≤ s.tmb.now) ∧
    (∀ g, .tqExpiry g ∈ s.dueEvents ↔
      ∃ grp e, (g, grp) ∈ s.tgm.groups ∧ grp.tqTimer = some e ∧ e ≤ s.tmb.now) ∧
    (∀ g, .twExpiry g ∈ s.dueEvents ↔
      ∃ grp e, (g, grp) ∈ s.tgm.groups ∧ grp.twTimer = some e ∧ e ≤ s.tmb.now) ∧
    (∀ tag, .seizureSupervisionExpiry tag ∈ s.dueEvents ↔
      ∃ c e, (tag, c) ∈ s.ctb ∧ c.supervision = some e ∧ e ≤ s.tmb.now) ∧
    (∀ tag, .chargeStepExpiry tag ∈ s.dueEvents ↔
      ∃ c e, (tag, c) ∈ s.ctb ∧ c.chargeStep = some e ∧ e ≤ s.tmb.now) ∧
    (∀ i, .gapDurationExpiry i ∈ s.dueEvents ↔
      ∃ g e, (i, g) ∈ s.gpc.gaps ∧ g.expiry = some e ∧ e ≤ s.tmb.now) ∧
    (.periodTimerExpiry ∈ s.dueEvents ↔ ∃ e, s.chu.period.timer = some e ∧ e ≤ s.tmb.now) ∧
    (.partClockRise ∈ s.dueEvents ↔ s.lif.phase = .running ∧ 1000 ≤ s.tmb.clockCount) ∧
    (.initComplete ∈ s.dueEvents ↔ s.lif.phase = .initialising ∧ 40 ≤ s.lif.initElapsed) ∧
    (.restartCompletion ∈ s.dueEvents ↔ ∃ v, s.lif.serving = some v ∧ 25 ≤ v.elapsed) ∧
    (∀ number body, .restart number body ∈ s.dueEvents ↔
      body = [] ∧ ∃ v, s.lif.serving = some v ∧ v.number = number ∧ v.left ≠ []) ∧
    (.interCharacterTimeout ∈ s.dueEvents ↔
      ∃ bytes last, s.lif.receiver = .inside bytes last ∧ last + 10 < s.tmb.now)

/-- The state after reset: initialising, every record cleared, the queues empty, the flags clear, part clock 0, period number 1,
period length 0, no timer, AUTO_GAP interval 1,000 ms (R6, R13, R37, R98, R124, R158, R168, R178). -/
def Obligations.ResetStateCleared : Prop :=
  State.reset.lif.phase = .initialising ∧ State.reset.lif.receiver = .hunting ∧ State.reset.lif.requests = [] ∧
    State.reset.lif.replies = [] ∧ State.reset.lif.advisories = [] ∧ State.reset.lif.outLine = none ∧
    State.reset.lif.linkReset = none ∧ State.reset.lif.serving = none ∧ State.reset.summaryByte = 0x80 ∧
    State.reset.rsl.prefixes = [] ∧ (∀ p, State.reset.plan? p = none) ∧ (∀ g, State.reset.group? g = none) ∧
    (∀ c, State.reset.circuit? c = none) ∧ (∀ tag, State.reset.call? tag = none) ∧
    (∀ k, State.reset.account? k = none) ∧ (∀ c, State.reset.tariff? c = none) ∧ State.reset.gpc.gaps = [] ∧
    State.reset.gpc.autoInterval = 1000 ∧ State.reset.tmb.clock = 0 ∧ State.reset.tmb.clockCount = 0 ∧
    State.reset.chu.period = { number := 1, length := 0, timer := none, held := false, tariffMark := false } ∧
    State.reset.pending = []

/-- The laws of the manual hold of the state after reset. -/
def Obligations.LawsHoldAtReset : Prop :=
  RecordLaws State.reset ∧ QueuesBounded State.reset ∧ OneStrainPerGroup State.reset ∧ StrainLaw State.reset ∧
    SchedulesAhead State.reset ∧ TotalsInRange State.reset ∧ PeriodLaw State.reset ∧ GapLaw State.reset

/-! ### The control link -/

/-- A whole frame that arrives at a hunting receiver, behind any bytes that are no start code, joins the tail of the running part's
request queue exactly as sent, or is discarded with OVERRUN when the queue holds 8 (R170, R171). During the initialisation it enters
no request queue: it is answered NOT_READY at once with a summary byte that has NOT_READY alone, or discarded when the reply queue
holds 8 (R178). Nothing else changes. -/
def Obligations.WholeFrameReceived : Prop :=
  (∀ (s : State) (junk : List Byte) (f : Frame),
     s.lif.phase = .running → (∀ r, s.lif.linkReset = some r → r.marking = true) → s.lif.receiver = .hunting →
     (∀ b ∈ junk, b ≠ 0xC3) → f.body.length ≤ 1022 →
     exec (.frameReceived (junk ++ f.onLine)) s =
       .next { s with
         lif :=
           if s.lif.requests.length < 8 then { s.lif with requests := s.lif.requests ++ [f] }
           else { s.lif with overrun := true } }) ∧
  (∀ (s : State) (f : Frame),
     s.lif.phase = .initialising → (∀ r, s.lif.linkReset = some r → r.marking = true) → s.lif.receiver = .hunting →
     f.body.length ≤ 1022 →
     exec (.frameReceived f.onLine) s =
       .next { s with
         lif :=
           if s.lif.replies.length < 8 then
             { s.lif with replies := s.lif.replies ++ [{ kind := f.kind ||| 0x80, number := f.number, body := [0x80, 0x01] }] }
           else s.lif })

/-- A frame whose check does not match is abandoned: it is discarded, LINK_ERROR is set, and the receiver hunts (R170). The single
events of the receiver: the start code, a length below 2 or above 1,024, a pause inside a frame of more than 10 ms (on the tick,
from 10; the model's choice, log 27), and a character without its stop bit. -/
def Obligations.ReceiverAbandonsAndEvents : Prop :=
  (∀ (s : State) (f : Frame) (high low : Byte),
     s.lif.phase ≠ .held → (∀ r, s.lif.linkReset = some r → r.marking = true) → s.lif.receiver = .hunting →
     f.body.length ≤ 1022 →
     high.toNat * 256 + low.toNat ≠
       (frameCheck (putNumber 2 (f.body.length + 2) ++ f.kind :: f.number :: f.body)).toNat →
     exec (.frameReceived
         (0xC3 :: (putNumber 2 (f.body.length + 2) ++ f.kind :: f.number :: f.body) ++ [high, low])) s =
       .next { s with lif := { s.lif with linkError := true } }) ∧
  (∀ s : State, s.lif.phase ≠ .held → (∀ r, s.lif.linkReset = some r → r.marking = true) → s.lif.receiver = .hunting →
    exec .startCodeReceived s = .next { s with lif := { s.lif with receiver := .inside [] s.tmb.now } }) ∧
  (∀ (s : State) (high low : Byte) (last : Nat), s.lif.phase ≠ .held →
    (∀ r, s.lif.linkReset = some r → r.marking = true) → s.lif.receiver = .inside [] last →
    (high.toNat * 256 + low.toNat < 2 ∨ 1024 < high.toNat * 256 + low.toNat) →
    exec (.lengthOutOfRange high low) s =
      .next { s with lif := { s.lif with receiver := .hunting, linkError := true } }) ∧
  (∀ (s : State) (bytes : List Byte) (last : Nat), s.lif.receiver = .inside bytes last → last + 10 ≤ s.tmb.now →
    exec .interCharacterTimeout s = .next { s with lif := { s.lif with receiver := .hunting, linkError := true } }) ∧
  (∀ s : State, s.lif.phase ≠ .held →
    exec .brokenCharacter s = .next { s with lif := { s.lif with receiver := .hunting, linkError := true } })

/-- When the out-line is free, LIF sends the oldest reply; without one, the first advisory in delivery order, with request number
0 and the summary byte built now; without either, nothing (R173). What is sent has left its queue, and nothing else changes. The
advisory taken has the lowest priority number, and is the oldest of that priority; the others keep their order (R174). The kind and
the fields of each advisory are those of R174 and R182, 0x60 for TIMEOUT up to 0x6A for READY. The model's points: the summary byte of
an advisory is built once it has left its queue (log 7), the frame is sent whole at once (log 8), and the tariff mark of CLOSED is the
byte 1 when set (log 11). -/
def Obligations.OutlineChoosesFrameInDeliveryOrder : Prop :=
  (∀ s : State, s.lif.phase ≠ .held →
     (∀ f rest, s.lif.replies = f :: rest →
       exec .outlineFrameSend s = .next { s with lif := { s.lif with replies := rest, outLine := some f.onLine } }) ∧
     (∀ a rest, s.lif.replies = [] → takeAdvisory s.lif.advisories = some (a, rest) →
       exec .outlineFrameSend s = .next { s with
         lif := { s.lif with
           advisories := rest,
           outLine := some (Frame.onLine
             { kind := a.kind, number := 0,
               body := State.summaryByte { s with lif := { s.lif with advisories := rest } } :: a.layout }) } }) ∧
     (s.lif.replies = [] → s.lif.advisories = [] →
       exec .outlineFrameSend s = .next { s with lif := { s.lif with outLine := none } })) ∧
  (∀ queue : List Advisory,
     (takeAdvisory queue = none ↔ queue = []) ∧
     (∀ a rest, takeAdvisory queue = some (a, rest) →
       ∃ older newer, queue = older ++ a :: newer ∧ rest = older ++ newer ∧
         (∀ b ∈ older, a.priority < b.priority) ∧ (∀ b ∈ newer, a.priority ≤ b.priority))) ∧
  (∀ a : Advisory, a.kind = BitVec.ofNat 8 (0x5F + a.priority) ∧
    a.kind :: a.layout =
      match a with
      | .timeout tag group circuit => 0x60 :: (putNumber 4 tag ++ putNumber 2 group ++ putNumber 2 circuit)
      | .suspended group cause count =>
        0x61 :: (putNumber 2 group ++ (match cause with | .faultRun => 0 | .reopenLapsed => 1) :: putNumber 1 count)
      | .strain group level => 0x62 :: (putNumber 2 group ++ putNumber 1 level)
      | .restored group level => 0x63 :: (putNumber 2 group ++ putNumber 1 level)
      | .gapOn plan group interval mark =>
        0x64 :: (putNumber 2 plan ++ putNumber 2 group ++ putNumber 2 interval ++
          [match mark with | .placed => 0 | .notPlaced => 1])
      | .gapOff plan group => 0x65 :: (putNumber 2 plan ++ putNumber 2 group)
      | .closeHeld period uncollected trigger =>
        0x66 :: (putNumber 4 period ++ putNumber 1 uncollected ++
          [match trigger with | .timer => 0 | .request => 1 | .release => 2])
      | .closed period closeTime accounts mark trigger =>
        0x67 :: (putNumber 4 period ++ putNumber 4 closeTime ++ putNumber 1 accounts ++
          [if mark then 1 else 0, match trigger with | .timer => 0 | .request => 1 | .release => 2])
      | .tariffOn index v clock trigger =>
        0x68 :: (putNumber 1 index ++ putNumber 2 v.setup ++ putNumber 2 v.price ++ putNumber 2 v.interval ++
          putNumber 1 v.fine ++ putNumber 4 clock ++ [match trigger with | .clock => 0 | .request => 1 | .setClock => 2])
      | .restarted calls gaps => 0x69 :: (putNumber 2 calls ++ putNumber 1 gaps)
      | .ready cause => [0x6A, match cause with | .powerOn => 0 | .linkReset => 1])

/-- What LIF does with an offered advisory (R174, R177): a STRAIN of a group already queued is rewritten in its place; otherwise it
is added when the queue holds fewer than 32; a RESTARTED takes the newest's place in a full queue; any other is lost; and the
sticky flag says so. Between the beginning and the end of a link reset it is discarded. -/
def Obligations.OfferedAdvisoryQueued : Prop :=
  ∀ (l : Lif) (a : Advisory),
    (l.linkReset.isSome = true → l.offer a = l) ∧
    (l.linkReset = none →
      (∀ g level, a = .strain g level → (∃ old, .strain g old ∈ l.advisories) →
        l.offer a = { l with
          advisories := l.advisories.map (fun b => if b.strainGroup = some g then .strain g level else b) }) ∧
      ((∀ g level old, a = .strain g level → .strain g old ∉ l.advisories) →
        (l.advisories.length < 32 → l.offer a = { l with advisories := l.advisories ++ [a] }) ∧
        (32 ≤ l.advisories.length →
          (∀ calls gaps, a = .restarted calls gaps →
            l.offer a = { l with advisories := l.advisories.dropLast ++ [a], advisoryLost := true }) ∧
          ((∀ calls gaps, a ≠ .restarted calls gaps) → l.offer a = { l with advisoryLost := true }))))

/-- The eight flags of the summary byte (R175, R182). -/
def Obligations.SummaryByteFlags : Prop :=
  ∀ s : State,
    (s.summaryByte.getLsbD 0 = true ↔ s.lif.advisories ≠ []) ∧
    s.summaryByte.getLsbD 1 = s.lif.advisoryLost ∧ s.summaryByte.getLsbD 2 = s.lif.overrun ∧
    s.summaryByte.getLsbD 3 = s.lif.linkError ∧
    (s.summaryByte.getLsbD 4 = true ↔ ∃ e ∈ s.tgm.groups, e.2.level = 3) ∧
    s.summaryByte.getLsbD 5 = s.chu.period.held ∧
    (s.summaryByte.getLsbD 6 = true ↔ ∃ e ∈ s.gpc.gaps, e.2.origin = .auto) ∧
    (s.summaryByte.getLsbD 7 = true ↔ s.lif.phase = .initialising)

/-- A link reset begins and ends (R177, R178). At its beginning the frame being received and the three queues are discarded, and no
record of another block changes. At its end the sticky flags are cleared and READY with cause LINK_RESET is queued, but for a reset
that began during the initialisation; a RESTART still in service puts the end off to its completion, and a link reset that begins
meanwhile takes the place of the one that waits (the model's choice, log 34). While the in-line is spacing the part takes no character
(R177). Power-on and the release of the
reset pin (R169, R178) read the straps and begin the initialisation, with every record cleared as after reset; while the pin is held
the part is cleared (the model clears at once, log 22), takes nothing from the in-line and sends nothing, also by a power-on (the model stays held, log 21); at the
completion the part runs, the sticky flags are clear, and READY with cause POWER_ON is queued, also while the in-line is spacing
(the model's reading of R178, log 25). -/
def Obligations.LinkAndPowerResets : Prop :=
  (∀ s : State, s.lif.phase ≠ .held → (∀ r, s.lif.linkReset = some r → r.marking = true) →
    ∃ inInit, (s.lif.phase = .initialising → inInit = true) ∧
      (s.lif.phase = .running → s.lif.linkReset = none → inInit = false) ∧
      exec .linkResetBegin s = .next { s with
        lif := { s.lif with
          receiver := .hunting, requests := [], replies := [], advisories := [],
          linkReset := some { marking := false, inInit := inInit } } }) ∧
  (∀ (s : State) (cs : List Byte) (high low : Byte),
    (s.lif.phase = .held ∨ ∃ r, s.lif.linkReset = some r ∧ r.marking = false) →
    exec (.frameReceived cs) s = .next s ∧ exec .startCodeReceived s = .next s ∧
      exec (.lengthOutOfRange high low) s = .next s ∧ exec .linkResetBegin s = .next s) ∧
  (∀ s : State, s.lif.phase = .held → exec .outlineFrameSend s = .next s ∧ exec .brokenCharacter s = .next s) ∧
  (∀ (s : State) (r : LinkReset), s.lif.linkReset = some r → r.marking = false → s.lif.serving = none →
    exec .linkResetEnd s = .next { s with
      lif := (if r.inInit then [] else [Advisory.ready .linkReset]).foldl Lif.offer
        { s.lif with linkReset := none, advisoryLost := false, overrun := false, linkError := false } }) ∧
  (∀ (s : State) (r : LinkReset) (v : Serving), s.lif.linkReset = some r → r.marking = false → s.lif.serving = some v →
    exec .linkResetEnd s = .next { s with lif := { s.lif with linkReset := some { r with marking := true } } }) ∧
  (∀ (s : State) (a b : Bool) (rate : LineRate),
    rate = (if a then (if b then .r3686400 else .r921600) else (if b then .r460800 else .r115200)) →
    (s.lif.phase ≠ .held → exec (.powerOn a b) s = .next { State.reset with
      lif := { State.reset.lif with lineRate := rate }, pending := s.pending, freeCounter := s.freeCounter }) ∧
    (s.lif.phase = .held → exec (.powerOn a b) s = .next { State.reset with
      lif := { State.reset.lif with lineRate := rate, phase := .held }, pending := s.pending,
      freeCounter := s.freeCounter }) ∧
    (s.lif.phase = .held → exec (.resetPinRelease a b) s = .next { State.reset with
      lif := { State.reset.lif with lineRate := rate }, pending := s.pending, freeCounter := s.freeCounter })) ∧
  (∀ s : State, exec .resetPinAssert s = .next { State.reset with
    lif := { State.reset.lif with lineRate := s.lif.lineRate, phase := .held },
    pending := s.pending, freeCounter := s.freeCounter }) ∧
  (∀ s : State, s.lif.phase = .initialising → s.lif.advisories.length < 32 → exec .initComplete s = .next { s with
    lif := { s.lif with
      phase := .running, initElapsed := 0, advisoryLost := false, overrun := false, linkError := false,
      advisories := s.lif.advisories ++ [.ready .powerOn] },
    tmb := { s.tmb with clockCount := 0 } })

/-- Every request that the engine takes is answered by exactly one reply, at the tail of the reply queue, of the request's kind
with its top bit set and with its number, and its frame leaves the request queue (R172); RESTART alone is answered later. A frame
that is not the engine's to take waits, and nothing changes (log 1); a RESTART row given while one is in service lets that one go on
(log 26), as RestartActsAndCompletes says. -/
def Obligations.EngineAnswersEachRequestOnce : Prop :=
  ∀ (s : State) (kind number : Byte) (body : List Byte),
    (∀ t, Takes s kind number body → kind ≠ 0x33 → exec (requestCommand kind number body) s = .next t →
      t.lif.requests = s.lif.requests.tail ∧ t.lif.phase = s.lif.phase ∧ t.lif.receiver = s.lif.receiver ∧
      t.lif.outLine = s.lif.outLine ∧ t.lif.linkReset = none ∧ t.lif.serving = none ∧ t.pending = s.pending ∧
      ∃ summary fields, t.lif.replies =
        s.lif.replies ++ [{ kind := kind ||| 0x80, number := number, body := summary :: fields }]) ∧
    (¬ Takes s kind number body → (kind = 0x33 → s.lif.serving = none) →
      exec (requestCommand kind number body) s = .next s)

/-- A request that is refused changes no record of any block and queues no advisory: LIF alone moves on (R3, R8, R19, R57, R79,
R113, R145, R160). -/
def Obligations.RefusedRequestChangesNoRecord : Prop :=
  ∀ (s t : State) (kind number : Byte) (body : List Byte) (summary result : Byte) (fields : List Byte),
    Takes s kind number body → kind ≠ 0x40 → exec (requestCommand kind number body) s = .next t →
    t.lif.replies = s.lif.replies ++ [{ kind := kind ||| 0x80, number := number, body := summary :: result :: fields }] →
    result ∈ ([0x02, 0x03, 0x04, 0x05, 0x06, 0x07, 0x08, 0x09, 0x0A, 0x0B, 0x0C, 0x0E, 0x0F] : List Byte) →
    Served s t kind number [] (result :: fields) ∧ t = { s with lif := t.lif }

/-- STATUS (R176) carries the counts, the period number and the line rate (as a number of 3 bytes, the model's reading, log 15), shows the sticky flags in its summary byte and clears
them once it is built; a kind that names no request is answered UNKNOWN_KIND (R181). Nothing else changes. -/
def Obligations.StatusAndUnknownKindServed : Prop :=
  (∀ (s : State) (number : Byte) (body : List Byte), Takes s 0x40 number body →
    exec (.status number body) s = .next { s with
      lif := { s.lif with
        requests := s.lif.requests.tail, advisoryLost := false, overrun := false, linkError := false,
        replies := s.lif.replies ++
          [{ kind := 0xC0, number := number,
             body := s.summaryByte :: 0x00 ::
               (putNumber 2 s.tgm.groups.length ++ putNumber 2 s.ctb.length ++ putNumber 1 s.gpc.gaps.length ++
                 putNumber 1 s.lif.advisories.length ++ putNumber 4 s.chu.period.number ++
                 putNumber 3 s.lif.lineRate.bitsPerSecond) }] } }) ∧
  (∀ (s : State) (kind number : Byte) (body : List Byte), Takes s kind number body → isRequestKind kind = false →
    ∃ t, exec (.unknownKind kind number body) s = .next t ∧ Served s t kind number [] [0x0E] ∧
      t = { s with lif := t.lif })

/-- RESTART (R38, R56, R97, R125, R179, R180). It is taken from the queue, empties the advisory queue, and stays in service with its
effects to come: the calls removed and the circuits freed as one step, the groups in rising index, the AUTO gaps at a free place
among them (log 5), RESTARTED last. They fall one after another, a free number at a time (log 26), so that expiries may be taken
between two of them; RESTART given again goes on with them, and RESTART_COMPLETION brings what is left and then replies, or ends a
link reset (R177). Each effect is stated whole. RESTARTED counts the AUTO gaps that the removal of R125 found, and those that a fall
report of RESTART lifted or not (free, log 6). A group still to come at that removal loses a pending escalation (log 26). With
nothing between its effects every group ends at f of its recounted idle count, the gap table holds the MANUAL entries alone, the queue
holds the STRAIN and GAP_OFF of its effects and then RESTARTED, and the count is at most the AUTO entries, and just those where no
fall is reported. -/
def Obligations.RestartActsAndCompletes : Prop :=
  (∀ (s : State) (number : Byte) (body : List Byte), Takes s 0x33 number body →
    ∃ t p n, exec (.restart number body) s = .next t ∧ p ≤ s.tgm.groups.length ∧ n ≤ s.tgm.groups.length + 3 ∧
      t = { State.runEffects n (restartBegun s number p) with freeCounter := t.freeCounter }) ∧
  (∀ (s : State) (v : Serving) (number : Byte) (body : List Byte), s.lif.serving = some v →
    (v.number = number → ∃ t n, exec (.restart number body) s = .next t ∧ n ≤ v.left.length ∧
      t = { State.runEffects n s with freeCounter := t.freeCounter }) ∧
    (v.number ≠ number → exec (.restart number body) s = .next s)) ∧
  (∀ (s : State) (v : Serving) (left : List RestartEffect), s.lif.serving = some v →
    (v.left = [] → s.nextEffect = s) ∧
    (v.left = .freeCalls :: left → ∃ t, s.nextEffect = t ∧
      t = { s with
        lif := { s.lif with serving := some { v with calls := s.ctb.length, left := left } }, tgm := t.tgm, ctb := [] } ∧
      (∀ i, t.circuit? i = (s.circuit? i).map (fun c =>
        if c.state.isBusy || c.state.isGuard then
          { c with state := if c.blockPending then .blocked else .idle, blockPending := false }
        else c)) ∧
      (∀ g, t.group? g = (s.group? g).map (fun grp =>
        { grp with idleCount := t.idleCircuitCount g, probe := none }))) ∧
    (∀ g, v.left = .resetGroup g :: left →
      (s.group? g = none → s.nextEffect = { s with lif := { s.lif with serving := some { v with left := left } } }) ∧
      (∀ grp level reported, s.group? g = some grp → level = grp.config.raiseLevel grp.idleCount →
        (reported = true ↔ level < grp.level ∧ level ≤ 1 ∧ grp.service = .inService) → Canonical s →
        ∃ t count, s.nextEffect = t ∧
          t = { s with
            lif := { (strainOffered g grp.level level ++ if reported then gapOffsOffered s g else []).foldl Lif.offer s.lif with
              serving := some { v with gaps := count, left := left } },
            tgm := { s.tgm with groups := t.tgm.groups },
            gpc := { s.gpc with gaps := if reported then gapsAfterFall s g else s.gpc.gaps } } ∧
          (count = v.gaps ∨ count = v.gaps + (autoCount s.gpc.gaps - autoCount t.gpc.gaps)) ∧
          t.group? g = some
            { grp with
              level := level,
              window :=
                { seizures := 0, overflows := 0, answers := 0, minIdle := grp.idleCount, maxBusy := s.busyCount g },
              windowTimer :=
                if grp.config.windowLength = 0 then none else some (s.tmb.now + grp.config.windowLength * 1000),
              escalationTimer := if level = 3 then some (s.tmb.now + grp.config.te * 1000) else none } ∧
          (∀ h, h ≠ g → t.group? h = s.group? h))) ∧
    (v.left = .purgeGaps :: left → ∃ t, s.nextEffect = t ∧
      t = { s with
        lif := { s.lif with serving := some { v with gaps := v.gaps + autoCount s.gpc.gaps, left := left } },
        tgm := { s.tgm with groups := t.tgm.groups },
        gpc := { s.gpc with gaps := s.gpc.gaps.filter (fun e => decide (e.2.origin = .manual)) } } ∧
      (∀ g, t.group? g = (s.group? g).map (fun grp =>
        if .resetGroup g ∈ left then { grp with escalationTimer := none } else grp))) ∧
    (v.left = .announce :: left → s.nextEffect =
      { s with lif := Lif.offer { s.lif with serving := some { v with left := left } } (.restarted v.calls v.gaps) })) ∧
  (∀ (s : State) (v : Serving), s.lif.serving = some v →
    ∃ t v', t = State.runEffects v.left.length s ∧ t.lif.serving = some v' ∧ v'.number = v.number ∧ v'.left = [] ∧
      (s.lif.linkReset = none → exec .restartCompletion s = .next { t with
        lif := { t.lif with
          serving := none,
          replies := t.lif.replies ++
            [{ kind := 0xB3, number := v.number,
               body := t.summaryByte :: 0x00 :: (putNumber 2 v'.calls ++ putNumber 1 v'.gaps) }] } }) ∧
      (∀ r, s.lif.linkReset = some r → r.marking = false →
        exec .restartCompletion s = .next { t with lif := { t.lif with serving := none } }) ∧
      (∀ r, s.lif.linkReset = some r → r.marking = true →
        exec .restartCompletion s = .next { t with
          lif := (if r.inInit then [] else [Advisory.ready .linkReset]).foldl Lif.offer
            { t.lif with
              serving := none, linkReset := none, advisoryLost := false, overrun := false, linkError := false } })) ∧
  (∀ (s t : State) (number : Byte) (p : Nat), Canonical s → s.lif.linkReset = none →
    t = State.runEffects (s.tgm.groups.length + 3) (restartBegun s number p) →
    ∃ gaps older, t.rsl = s.rsl ∧ t.chu = s.chu ∧ t.tmb = s.tmb ∧ t.ctb = [] ∧ t.pending = s.pending ∧
      t.gpc =
        { gaps := s.gpc.gaps.filter (fun e => decide (e.2.origin = .manual)), autoInterval := s.gpc.autoInterval } ∧
      t.lif.requests = s.lif.requests.tail ∧ t.lif.replies = s.lif.replies ∧
      t.lif.serving = some { number := number, calls := s.ctb.length, gaps := gaps, elapsed := 0, left := [] } ∧
      t.lif.advisories = older ++ [.restarted s.ctb.length gaps] ∧
      (∀ a ∈ older, (∃ g level, a = .strain g level) ∨ ∃ q g, a = .gapOff q g) ∧
      gaps ≤ autoCount s.gpc.gaps ∧
      ((∀ e ∈ t.tgm.groups, ∀ grp, s.group? e.1 = some grp →
          ¬ (e.2.level < grp.level ∧ e.2.level ≤ 1 ∧ grp.service = .inService)) →
        gaps = autoCount s.gpc.gaps) ∧
      (∀ i, t.circuit? i = (s.circuit? i).map (fun c =>
        if c.state.isBusy || c.state.isGuard then
          { c with state := if c.blockPending then .blocked else .idle, blockPending := false }
        else c)) ∧
      (∀ g, t.group? g = (s.group? g).map (fun grp =>
        { grp with
          idleCount := t.idleCircuitCount g, probe := none, level := grp.config.raiseLevel (t.idleCircuitCount g),
          window :=
            { seizures := 0, overflows := 0, answers := 0, minIdle := t.idleCircuitCount g, maxBusy := 0 },
          windowTimer :=
            if grp.config.windowLength = 0 then none else some (s.tmb.now + grp.config.windowLength * 1000),
          escalationTimer :=
            if grp.config.raiseLevel (t.idleCircuitCount g) = 3 then some (s.tmb.now + grp.config.te * 1000)
            else none })))

/-! ### Prefixes and plans -/

/-- SET_PREFIX and DEL_PREFIX (R3, R4): the checks refuse in the order of the rule, the first condition that holds deciding, and a
request that passes writes or removes exactly one entry: lookups of every other string answer as before, and no other record
changes. A cut note counts as a body too short (the model's reading, log 10). -/
def Obligations.PrefixRequestsEditOneEntry : Prop :=
  (∀ (s : State) (number : Byte) (body : List Byte) (ds : Digits) (plan : Nat) (note : Option Nat),
    Takes s 0x01 number body → readSetPrefix body = some (ds, plan, note) → 1 ≤ ds.length → ds.length ≤ 12 →
    (∀ d ∈ ds, d ≤ 9) → plan < 1024 → (s.plan? plan).isSome = true →
    ((findEntry ds s.rsl.prefixes).isSome = true ∨ s.rsl.prefixes.length < 4096) →
    ∃ t, exec (.setPrefix number body) s = .next t ∧
      Served s t 0x01 number [] (0x00 :: putOptional PrefixEntry.layout (findEntry ds s.rsl.prefixes)) ∧
      t = { s with lif := t.lif, rsl := { s.rsl with prefixes := t.rsl.prefixes } } ∧
      findEntry ds t.rsl.prefixes = some { digits := ds, plan := plan, note := note } ∧
      (∀ other, other ≠ ds → findEntry other t.rsl.prefixes = findEntry other s.rsl.prefixes) ∧
      (prefixesOrdered s.rsl.prefixes = true → prefixesOrdered t.rsl.prefixes = true ∧
        t.rsl.prefixes.length =
          s.rsl.prefixes.length + (if (findEntry ds s.rsl.prefixes).isSome then 0 else 1))) ∧
  (∀ (s : State) (number : Byte) (body : List Byte) (ds : Digits) (rest : List Byte) (e : PrefixEntry),
    Takes s 0x02 number body → takeDigits body = some (ds, rest) → 1 ≤ ds.length → ds.length ≤ 12 →
    (∀ d ∈ ds, d ≤ 9) → findEntry ds s.rsl.prefixes = some e →
    ∃ t, exec (.delPrefix number body) s = .next t ∧
      Served s t 0x02 number [] (0x00 :: (putNumber 2 e.plan ++ putOptional (putNumber 2) e.note)) ∧
      t = { s with lif := t.lif, rsl := { s.rsl with prefixes := t.rsl.prefixes } } ∧
      findEntry ds t.rsl.prefixes = none ∧
      (∀ other, other ≠ ds → findEntry other t.rsl.prefixes = findEntry other s.rsl.prefixes) ∧
      (prefixesOrdered s.rsl.prefixes = true → prefixesOrdered t.rsl.prefixes = true ∧
        t.rsl.prefixes.length + 1 = s.rsl.prefixes.length)) ∧
  (∀ (s : State) (number : Byte) (body : List Byte), Takes s 0x01 number body →
    ((body.length < digitsSize body 0 + 2 ∨
        (digitsSize body 0 + 2 < body.length ∧ body[digitsSize body 0 + 2]? ≠ some 0 ∧
          body.length < digitsSize body 0 + 5)) → Refused s 0x01 number body [0x02]) ∧
    (∀ ds plan note, readSetPrefix body = some (ds, plan, note) → RefusedByFirst s 0x01 number body
      [(BadDigits 1 12 ds, [0x04]), (1024 ≤ plan, [0x03]), (s.plan? plan = none, [0x05]),
        (findEntry ds s.rsl.prefixes = none ∧ 4096 ≤ s.rsl.prefixes.length, [0x08])])) ∧
  (∀ (s : State) (number : Byte) (body : List Byte), Takes s 0x02 number body →
    (body.length < digitsSize body 0 → Refused s 0x02 number body [0x02]) ∧
    (∀ ds rest, takeDigits body = some (ds, rest) → RefusedByFirst s 0x02 number body
      [(BadDigits 1 12 ds, [0x04]), (findEntry ds s.rsl.prefixes = none, [0x05])]))

/-- Longest-match lookup (R2) yields an entry that leads the number, none longer leads it, and yields none only when none leads;
the walk of READ_PREFIX NEXT (R5) yields the first entry after a string in table order. -/
def Obligations.PrefixLookups : Prop :=
  (∀ (number : Digits) (t : List PrefixEntry),
    (∀ e, longestMatch number t = some e → e ∈ t ∧ e.digits <+: number ∧
      ∀ e' ∈ t, e'.digits <+: number → e'.digits.length ≤ e.digits.length) ∧
    (longestMatch number t = none → ∀ e ∈ t, ¬ e.digits <+: number)) ∧
  (∀ (ds : Digits) (t : List PrefixEntry), prefixesOrdered t = true →
    (∀ e, nextEntry ds t = some e → e ∈ t ∧ digitsBefore ds e.digits = true ∧
      ∀ e' ∈ t, digitsBefore ds e'.digits = true → e' = e ∨ digitsBefore e.digits e'.digits = true) ∧
    (nextEntry ds t = none → ∀ e ∈ t, digitsBefore ds e.digits = false))

/-- SET_PLAN (R8, R9): the checks refuse in the order of the rule, the first condition that holds deciding; a request that passes writes
the whole plan: ceiling 0 stored as 1, a limit above 5 as 5, the sticky position 2 or absent; the reply carries the previous
contents, and no other plan and no other record changes. Advancing raises the sticky position by one, from the last position to 2,
when the failed call's position equals it; a grant at an alternate sets it; a FIXED plan and a plan of one choice have none to change
(R10, R70). What a failure or a seizure timeout hands to RSL (R84, R87) advances the plan it names, if that plan is configured, and
changes nothing else. -/
def Obligations.PlanWrittenAndStickyMoves : Prop :=
  (∀ (s : State) (number : Byte) (body : List Byte) (f : PlanFields) (p : Plan),
     Takes s 0x03 number body → readSetPlan body = some f → f.index < 1024 → 1 ≤ f.choices.length →
     f.choices.length ≤ 6 → (∀ g ∈ f.choices, g < 512) → f.choices.Nodup → f.mode ≤ 1 →
     p = { choices := f.choices, mode := if f.mode = 0 then .fixed else .sticky,
           stickyPosition := if f.mode = 1 ∧ 2 ≤ f.choices.length then some 2 else none,
           ceiling := f.ceiling.map (fun c => if c = 0 then 1 else c),
           crankbackLimit := if 5 < f.limit then 5 else f.limit } →
     ∃ t, exec (.setPlan number body) s = .next t ∧
       Served s t 0x03 number []
         (0x00 :: (putOptional Plan.layout (s.plan? f.index) ++ putOptional (putNumber 3) p.ceiling ++
           putNumber 1 p.crankbackLimit)) ∧
       t = { s with lif := t.lif, rsl := { s.rsl with plans := t.rsl.plans } } ∧
       t.plan? f.index = some p ∧ (∀ q, q ≠ f.index → t.plan? q = s.plan? q)) ∧
  (∀ (p : Plan) (q position : Nat), p.mode = .sticky → 2 ≤ p.choices.length → p.stickyPosition = some q →
    2 ≤ q → q ≤ p.choices.length →
    (position ≠ q → p.advanceSticky position = p) ∧
    (q < p.choices.length → p.advanceSticky q = { p with stickyPosition := some (q + 1) }) ∧
    (q = p.choices.length → p.advanceSticky q = { p with stickyPosition := some 2 }) ∧
    p.grantSticky 1 = p ∧ p.grantSticky q = p ∧
    (2 ≤ position → p.grantSticky position = { p with stickyPosition := some position })) ∧
  (∀ (p : Plan) (position : Nat), p.mode = .fixed ∨ p.choices.length < 2 →
    p.advanceSticky position = p ∧ p.grantSticky position = p) ∧
  (∀ (s : State) (i position : Nat),
    (s.plan? i = none → s.advanceSticky i position = s) ∧
    (∀ p, s.plan? i = some p →
      s.advanceSticky i position =
        { s with rsl := { s.rsl with plans := s.rsl.plans.put i (p.advanceSticky position) } })) ∧
  (∀ (s : State) (number : Byte) (body : List Byte), Takes s 0x03 number body →
    (body.length < 6 + 2 * ((body[2]?).getD 0).toNat +
        (if (body[4 + 2 * ((body[2]?).getD 0).toNat]?).getD 0 = 0 then 0 else 3) →
      Refused s 0x03 number body [0x02]) ∧
    (∀ f, readSetPlan body = some f → RefusedByFirst s 0x03 number body
      [(1024 ≤ f.index, [0x03]), (f.choices.length = 0 ∨ 6 < f.choices.length, [0x04]), (∃ g ∈ f.choices, 512 ≤ g, [0x03]),
        (¬ f.choices.Nodup, [0x04]), (2 ≤ f.mode, [0x04])]))

/-! ### Gap control -/

/-- SET_GAP, DEL_GAP and the end of a duration (R112 to R115): the checks refuse in the order of the rule, the first condition that holds deciding;
the entry with the key is replaced in its slot, a new one takes the lowest free slot, and a removed one
frees its slot; no other entry and no other record changes, and no advisory is queued. The contents and the duration in the replies
are laid out as the model reads R116 (log 17), a key of unknown kind announces no key (log 19), and the padding of an odd digit string
is sent as 0 (log 35). -/
def Obligations.GapRequestsEditOneEntry : Prop :=
  (∀ (s : State) (number : Byte) (body : List Byte) (f : GapFields) (key : GapKey) (slot : Nat) (old : Option Gap),
    Takes s 0x0B number body → readSetGap body = some f → f.key.names s key → f.flag ≤ 1 →
    ((∃ g, old = some g ∧ findGap key s.gpc.gaps = some (slot, g)) ∨
      (old = none ∧ findGap key s.gpc.gaps = none ∧ slot < 64 ∧ s.gpc.gaps.get? slot = none ∧
        ∀ j < slot, (s.gpc.gaps.get? j).isSome = true)) →
    ∃ t, exec (.setGap number body) s = .next t ∧
      Served s t 0x0B number []
        (0x00 :: (putNumber 1 slot ++ putOptional (Gap.layout s.tmb.now) old ++
          putNumber 2 (max 100 (min 60000 f.interval)) ++
          putOptional (putNumber 3) (f.duration.map (fun d => max 1 (min 86400 d))))) ∧
      t = { s with lif := t.lif, gpc := { s.gpc with gaps := t.gpc.gaps } } ∧
      t.gpc.gaps.get? slot = some
        { key := key, origin := .manual, interval := max 100 (min 60000 f.interval), nextAdmit := s.tmb.now,
          expiry := f.duration.map (fun d => s.tmb.now + max 1 (min 86400 d) * 1000), admitted := 0, refused := 0 } ∧
      (∀ j, j ≠ slot → t.gpc.gaps.get? j = s.gpc.gaps.get? j)) ∧
  (∀ (s : State) (number : Byte) (body rest : List Byte) (raw : RawKey) (slot : Nat) (g : Gap),
    Takes s 0x0C number body → takeGapKey body = some (raw, rest) →
    ((∃ ds, raw = .digits ds ∧ digitsIn 1 12 ds = true ∧ findGap (.digits ds) s.gpc.gaps = some (slot, g)) ∨
      (∃ p, raw = .plan p ∧ p < 1024 ∧ findGap (.plan p) s.gpc.gaps = some (slot, g))) →
    s.gpc.gaps.wf = true →
    ∃ t, exec (.delGap number body) s = .next t ∧
      Served s t 0x0C number [] (0x00 :: (putNumber 1 slot ++ g.layout s.tmb.now)) ∧
      t = { s with lif := t.lif, gpc := { s.gpc with gaps := t.gpc.gaps } } ∧
      t.gpc.gaps.get? slot = none ∧ (∀ j, j ≠ slot → t.gpc.gaps.get? j = s.gpc.gaps.get? j)) ∧
  (∀ (s : State) (slot e : Nat) (g : Gap), s.gpc.gaps.get? slot = some g → g.expiry = some e → e ≤ s.tmb.now →
    s.gpc.gaps.wf = true →
    ∃ t, exec (.gapDurationExpiry slot) s = .next t ∧
      t = { s with gpc := { s.gpc with gaps := t.gpc.gaps } } ∧
      t.gpc.gaps.get? slot = none ∧ (∀ j, j ≠ slot → t.gpc.gaps.get? j = s.gpc.gaps.get? j)) ∧
  (∀ (s : State) (number : Byte) (body : List Byte), Takes s 0x0B number body →
    (body.length < gapKeySize body + 3 + (if body[gapKeySize body + 2]? = some 1 then 3 else 0) →
      Refused s 0x0B number body [0x02]) ∧
    (∀ f, readSetGap body = some f → RefusedByFirst s 0x0B number body
      [(f.key.bad ∨ 1 < f.flag, [0x04]), (∃ p, f.key = .plan p ∧ 1024 ≤ p, [0x03]),
        (∃ p, f.key = .plan p ∧ s.plan? p = none, [0x05]),
        (f.key.absent s ∧ ∀ j < 64, (s.gpc.gaps.get? j).isSome = true, [0x08])])) ∧
  (∀ (s : State) (number : Byte) (body : List Byte), Takes s 0x0C number body →
    (body.length < gapKeySize body → Refused s 0x0C number body [0x02]) ∧
    (∀ raw rest, takeGapKey body = some (raw, rest) → RefusedByFirst s 0x0C number body
      [(raw.bad, [0x04]), (∃ p, raw = .plan p ∧ 1024 ≤ p, [0x03]), (raw.absent s, [0x05])]))

/-- SET_AUTOGAP (R118): a body too short is refused BAD_LENGTH; otherwise the interval, clamped to 100..60,000, is stored, and the
reply carries the previous interval and the one stored. The entries that stand are not touched, and every AUTO entry placed takes
the interval stored when it is placed. -/
def Obligations.SetAutogapStoresInterval : Prop :=
  (∀ (s : State) (number : Byte) (body : List Byte), Takes s 0x0D number body →
    (body.length < 2 → ∃ t, exec (.setAutogap number body) s = .next t ∧ Served s t 0x0D number [] [0x02] ∧
      t = { s with lif := t.lif }) ∧
    (∀ v rest, takeNumber 2 body = some (v, rest) →
      ∃ t, exec (.setAutogap number body) s = .next t ∧
        Served s t 0x0D number []
          (0x00 :: (putNumber 2 s.gpc.autoInterval ++ putNumber 2 (max 100 (min 60000 v)))) ∧
        t = { s with lif := t.lif, gpc := { s.gpc with autoInterval := max 100 (min 60000 v) } })) ∧
  (∀ (s : State) (g p slot : Nat) (plan : Plan), plan.choices.head? = some g → s.planQualifies plan = true →
    findGap (.plan p) s.gpc.gaps = none → freeSlot s.gpc.gaps = some slot →
    ((s.gapPlan g (p, plan)).gpc.gaps.get? slot).map (·.interval) = some s.gpc.autoInterval)

/-- Gap admission (R117): the longest PREFIX entry that leads the number is tested first, and the PLAN entry only when that one
admits; a refusal counts at the entry that refused and consumes no slot, an admission consumes the slot of each entry applying. -/
def Obligations.GapAdmissionTests : Prop :=
  (∀ (number : Digits) (t : Table Gap),
    (∀ i g, longestGap number t = some (i, g) → (i, g) ∈ t ∧
      ∃ ds, g.key = .digits ds ∧ ds <+: number ∧
        ∀ e ∈ t, ∀ ds', e.2.key = .digits ds' → ds' <+: number → ds'.length ≤ ds.length) ∧
    (longestGap number t = none → ∀ e ∈ t, ∀ ds, e.2.key = .digits ds → ¬ ds <+: number)) ∧
  (∀ (now plan : Nat) (number : Digits) (t : Table Gap), t.wf = true →
    (∀ i g, longestGap number t = some (i, g) → now < g.nextAdmit →
      admission now number plan t = (false, t.put i { g with refused := min 4294967295 (g.refused + 1) })) ∧
    (∀ j h, (∀ i g, longestGap number t = some (i, g) → g.nextAdmit ≤ now) →
      findGap (.plan plan) t = some (j, h) → now < h.nextAdmit →
      admission now number plan t = (false, t.put j { h with refused := min 4294967295 (h.refused + 1) })) ∧
    ((∀ i g, longestGap number t = some (i, g) → g.nextAdmit ≤ now) →
      (∀ j h, findGap (.plan plan) t = some (j, h) → h.nextAdmit ≤ now) →
      (admission now number plan t).1 = true ∧
      ∀ k, (admission now number plan t).2.get? k = (t.get? k).map (fun g =>
        if longestGap number t = some (k, g) ∨ findGap (.plan plan) t = some (k, g) then
          { g with nextAdmit := now + g.interval, admitted := min 4294967295 (g.admitted + 1) }
        else g)))

/-- Escalation (R51, R119, R120): the expiry stops the group's timer and GPC examines the plans in rising index. A plan whose direct
choice is the group and whose every choice is shut, and which has no entry, gets an AUTO entry in the lowest free slot with GAP_ON
PLACED, or GAP_ON NOT_PLACED when the table is full; every other plan is left alone. -/
def Obligations.EscalationPlacesGaps : Prop :=
  (∀ (s : State) (g e : Nat) (grp : Group), s.group? g = some grp → grp.escalationTimer = some e → e ≤ s.tmb.now →
    exec (.escalationExpiry g) s =
      .next (s.rsl.plans.foldl (State.gapPlan g) (s.putGroup g { grp with escalationTimer := none }))) ∧
  (∀ (s : State) (plan : Plan), s.planQualifies plan = true ↔
    ∀ h ∈ plan.choices, ∀ grp, s.group? h = some grp → grp.service ≠ .inService ∨ grp.level = 3) ∧
  (∀ (s : State) (g p : Nat) (plan : Plan),
    (plan.choices.head? ≠ some g ∨ s.planQualifies plan = false ∨ (findGap (.plan p) s.gpc.gaps).isSome = true →
      s.gapPlan g (p, plan) = s) ∧
    (plan.choices.head? = some g → s.planQualifies plan = true → findGap (.plan p) s.gpc.gaps = none →
      (∀ slot, slot < 64 → s.gpc.gaps.get? slot = none → (∀ j < slot, (s.gpc.gaps.get? j).isSome = true) →
        s.gapPlan g (p, plan) = { s with
          lif := s.lif.offer (.gapOn p g s.gpc.autoInterval .placed),
          gpc := { s.gpc with
            gaps := s.gpc.gaps.put slot
              { key := .plan p, origin := .auto, interval := s.gpc.autoInterval, nextAdmit := s.tmb.now,
                expiry := none, admitted := 0, refused := 0 } } }) ∧
      ((∀ j < 64, (s.gpc.gaps.get? j).isSome = true) →
        s.gapPlan g (p, plan) = { s with lif := s.lif.offer (.gapOn p g s.gpc.autoInterval .notPlaced) })))

/-- A fall report of a group (R121): every AUTO entry on a plan that names the group is removed, with a GAP_OFF for each in rising
plan index; every other entry is kept, and nothing else changes. -/
def Obligations.FallReportRemovesGaps : Prop :=
  ∀ (s : State) (g : Nat), Canonical s →
    s.fallReport g = { s with
      lif := (gapOffsOffered s g).foldl Lif.offer s.lif,
      gpc := { s.gpc with gaps := gapsAfterFall s g } }

/-! ### Trunk groups and circuits -/

/-- The checks of SET_GROUP (R19): the request is refused with the first result whose condition holds, and it
passes exactly when none of them does. -/
def Obligations.SetGroupChecksOfR19 : Prop :=
  (∀ (s : State) (f : GroupFields), s.checkGroup f = none ↔
    f.index < 512 ∧ f.config.carrier < 128 ∧ f.config.tariffClass < 64 ∧ f.config.firstCircuit < 16384 ∧
    1 ≤ f.config.circuitCount ∧ f.config.circuitCount ≤ 480 ∧ f.huntByte ≤ 2 ∧ f.config.deleteCount ≤ 15 ∧
    f.config.insertDigits.length ≤ 8 ∧ (∀ d ∈ f.config.insertDigits, d ≤ 9) ∧
    f.config.firstCircuit + f.config.circuitCount - 1 < 16384 ∧
    (s.account? f.config.carrier).isSome = true ∧ (s.tariff? f.config.tariffClass).isSome = true ∧
    (∀ e ∈ s.tgm.groups, e.1 ≠ f.index → ∀ i,
      ¬ (e.2.config.firstCircuit ≤ i ∧ i < e.2.config.firstCircuit + e.2.config.circuitCount ∧
        f.config.firstCircuit ≤ i ∧ i < f.config.firstCircuit + f.config.circuitCount)) ∧
    (∀ old, s.group? f.index = some old →
      (old.config.carrier ≠ f.config.carrier ∨ old.config.tariffClass ≠ f.config.tariffClass ∨
        old.config.firstCircuit ≠ f.config.firstCircuit ∨ old.config.circuitCount ≠ f.config.circuitCount) →
      ∀ e ∈ s.tgm.circuits, e.2.owner = f.index → e.2.state.isBusy = false ∧ e.2.state.isGuard = false)) ∧
  (∀ (s : State) (number : Byte) (body : List Byte), Takes s 0x04 number body →
    (body.length < 36 + digitsSize body 36 → Refused s 0x04 number body [0x02]) ∧
    (∀ f, readSetGroup body = some f → RefusedByFirst s 0x04 number body
      [(512 ≤ f.index, [0x03]),
        (128 ≤ f.config.carrier ∨ 64 ≤ f.config.tariffClass ∨ 16384 ≤ f.config.firstCircuit, [0x03]),
        (f.config.circuitCount = 0 ∨ 480 < f.config.circuitCount ∨ 2 < f.huntByte ∨ 15 < f.config.deleteCount ∨
          BadDigits 0 8 f.config.insertDigits, [0x04]),
        (16384 ≤ f.config.firstCircuit + f.config.circuitCount - 1, [0x03]),
        (s.account? f.config.carrier = none ∨ s.tariff? f.config.tariffClass = none, [0x05]),
        (∃ e ∈ s.tgm.groups, e.1 ≠ f.index ∧ ∃ i, e.2.config.firstCircuit ≤ i ∧
          i < e.2.config.firstCircuit + e.2.config.circuitCount ∧ f.config.firstCircuit ≤ i ∧
          i < f.config.firstCircuit + f.config.circuitCount, [0x07]),
        (∃ old, s.group? f.index = some old ∧
          (old.config.carrier ≠ f.config.carrier ∨ old.config.tariffClass ≠ f.config.tariffClass ∨
            old.config.firstCircuit ≠ f.config.firstCircuit ∨ old.config.circuitCount ≠ f.config.circuitCount) ∧
          ∃ e ∈ s.tgm.circuits, e.2.owner = f.index ∧ (e.2.state.isBusy = true ∨ e.2.state.isGuard = true), [0x06])]))

/-- SET_GROUP creates a group (R20, R21): its fields are stored with every clamp of R20, it is IN_SERVICE with every
circuit of its range IDLE, the rotate position on the last one, the window begun, and the raise test run on the clamped
thresholds. The padding of an odd insert string is sent as 0 (the model's choice, log 35). -/
def Obligations.SetGroupCreatesGroup : Prop :=
  ∀ (s : State) (number : Byte) (body : List Byte) (f : GroupFields) (c : GroupConfig) (created : Group),
    Takes s 0x04 number body → readSetGroup body = some f → s.checkGroup f = none → s.group? f.index = none →
    s.tgm.circuits.wf = true → (∀ e ∈ s.tgm.circuits, e.2.owner ≠ f.index) → f.config.storedAs c →
    created =
      { config := c, service := .inService, level := 0, idleCount := c.circuitCount, faultCount := 0, probe := none,
        rotatePosition := c.firstCircuit + c.circuitCount - 1,
        window := { seizures := 0, overflows := 0, answers := 0, minIdle := c.circuitCount, maxBusy := 0 },
        lastWindow := none,
        windowTimer := if c.windowLength = 0 then none else some (s.tmb.now + c.windowLength * 1000),
        escalationTimer := none, tsTimer := none, tqTimer := none, twTimer := none } →
    ∃ t, exec (.setGroup number body) s = .next t ∧
      Served s t 0x04 number (strainOffered f.index 0 (created.tested s.tmb.now).level) (0x00 :: 0 :: c.layout) ∧
      t = { s with lif := t.lif, tgm := t.tgm } ∧
      t.group? f.index = some (created.tested s.tmb.now) ∧
      (∀ h, h ≠ f.index → t.group? h = s.group? h) ∧
      (∀ i, t.circuit? i =
        if c.firstCircuit ≤ i ∧ i < c.firstCircuit + c.circuitCount then
          some { owner := f.index, state := .idle, blockPending := false }
        else s.circuit? i)

/-- SET_GROUP rewrites a configured group (R20, R22, R42, R47): the fields are stored clamped, the running fields are kept but for
what a moved range, the raise test and the window's restart change; no other group changes. The padding of an odd insert string is
sent as 0 (the model's choice, log 35). -/
def Obligations.SetGroupRewritesGroup : Prop :=
  ∀ (s : State) (number : Byte) (body : List Byte) (f : GroupFields) (c : GroupConfig) (old : Group),
    Takes s 0x04 number body → readSetGroup body = some f → s.checkGroup f = none → s.group? f.index = some old →
    s.tgm.circuits.wf = true → f.config.storedAs c →
    ∃ t moved idle, exec (.setGroup number body) s = .next t ∧
      (moved ↔ old.config.firstCircuit ≠ c.firstCircuit ∨ old.config.circuitCount ≠ c.circuitCount) ∧
      (moved → idle = t.idleCircuitCount f.index ∧
        (∀ i, c.firstCircuit ≤ i → i < c.firstCircuit + c.circuitCount →
          t.circuit? i = match s.circuit? i with
            | some circ => if circ.owner = f.index then some circ
                else some { owner := f.index, state := .idle, blockPending := false }
            | none => some { owner := f.index, state := .idle, blockPending := false }) ∧
        (∀ i, ¬ (c.firstCircuit ≤ i ∧ i < c.firstCircuit + c.circuitCount) →
          t.circuit? i = match s.circuit? i with
            | some circ => if circ.owner = f.index then none else some circ
            | none => none)) ∧
      (¬ moved → idle = old.idleCount ∧ t.tgm.circuits = s.tgm.circuits) ∧
      Served s t 0x04 number (strainOffered f.index old.level (max old.level (c.raiseLevel idle)))
        (0x00 :: 1 :: (old.config.layout ++ c.layout)) ∧
      t = { s with lif := t.lif, tgm := t.tgm } ∧
      t.group? f.index = some
        { old with
          config := c, idleCount := idle, level := max old.level (c.raiseLevel idle),
          rotatePosition := if old.config.firstCircuit ≠ c.firstCircuit ∨ old.config.circuitCount ≠ c.circuitCount
            then c.firstCircuit + c.circuitCount - 1 else old.rotatePosition,
          window :=
            { seizures := 0, overflows := 0, answers := 0, minIdle := idle, maxBusy := t.busyCount f.index },
          windowTimer := if c.windowLength = 0 then none else some (s.tmb.now + c.windowLength * 1000),
          escalationTimer :=
            if old.level < 3 ∧ c.raiseLevel idle = 3 then some (s.tmb.now + c.te * 1000) else old.escalationTimer } ∧
      (∀ h, h ≠ f.index → t.group? h = s.group? h)

/-- DEL_GROUP and SERVICE (R23, R34): the checks refuse in the order of the rule, the first condition that holds deciding (for
SERVICE the model's reading, log 20); a deleted group and its circuits are gone; a group under SERVICE takes the target state with
its trial's timers stopped, its fault count 0 and its probe released, from whatever state it was in. The padding of an odd
insert string is sent as 0 (the model's choice, log 35). -/
def Obligations.GroupDeletedOrServiced : Prop :=
  (∀ (s : State) (number : Byte) (body rest : List Byte) (g : Nat) (grp : Group),
    Takes s 0x05 number body → takeNumber 2 body = some (g, rest) → g < 512 → s.group? g = some grp →
    (∀ e ∈ s.tgm.circuits, e.2.owner = g → e.2.state.isBusy = false ∧ e.2.state.isGuard = false) →
    s.tgm.groups.wf = true →
    ∃ t, exec (.delGroup number body) s = .next t ∧ Served s t 0x05 number [] (0x00 :: grp.config.layout) ∧
      t = { s with lif := t.lif, tgm := t.tgm } ∧ t.group? g = none ∧
      (∀ h, h ≠ g → t.group? h = s.group? h) ∧
      t.tgm.circuits = s.tgm.circuits.filter (fun e => decide (e.2.owner ≠ g))) ∧
  (∀ (s : State) (number : Byte) (body : List Byte) (g target : Nat) (grp : Group),
    Takes s 0x30 number body → readService body = some (g, target) → g < 512 → s.group? g = some grp → target ≤ 1 →
    ∃ t, exec (.service number body) s = .next t ∧ Served s t 0x30 number [] [0x00, grp.service.code] ∧
      t = { s with lif := t.lif, tgm := { s.tgm with groups := t.tgm.groups }, ctb := t.ctb } ∧
      t.group? g = some
        { grp with
          service := if target = 0 then .inService else .outOfService, faultCount := 0, probe := none,
          tsTimer := none, tqTimer := none, twTimer := none } ∧
      (∀ h, h ≠ g → t.group? h = s.group? h) ∧
      (∀ tag, t.call? tag = (s.call? tag).map (fun c => if grp.probe = some tag then { c with probe := false } else c))) ∧
  (∀ (s : State) (number : Byte) (body : List Byte), Takes s 0x05 number body →
    (body.length < 2 → Refused s 0x05 number body [0x02]) ∧
    (∀ g rest, takeNumber 2 body = some (g, rest) → RefusedByFirst s 0x05 number body
      [(512 ≤ g, [0x03]), (s.group? g = none, [0x05]),
        (∃ e ∈ s.tgm.circuits, e.2.owner = g ∧ (e.2.state.isBusy = true ∨ e.2.state.isGuard = true), [0x06])])) ∧
  (∀ (s : State) (number : Byte) (body : List Byte), Takes s 0x30 number body →
    (body.length < 3 → Refused s 0x30 number body [0x02]) ∧
    (∀ g target, readService body = some (g, target) → RefusedByFirst s 0x30 number body
      [(512 ≤ g, [0x03]), (s.group? g = none, [0x05]), (1 < target, [0x04])]))

/-- BLOCK and UNBLOCK (R31, R32): a body too short, an index out of range and a circuit with owner none are
refused in that order; otherwise they act by the circuit's state, and reply with the circuit's state and block-pending afterwards (1
when it is set, the model's reading of R182, log 11). -/
def Obligations.CircuitBlockedAndUnblocked : Prop :=
  (∀ (s : State) (number : Byte) (body rest : List Byte) (i : Nat) (circ : Circuit) (grp : Group),
    takeNumber 2 body = some (i, rest) → i < 16384 → s.circuit? i = some circ → s.group? circ.owner = some grp →
    (Takes s 0x31 number body →
      (circ.state = .idle → ∃ t, exec (.block number body) s = .next t ∧
        Served s t 0x31 number
          (strainOffered circ.owner grp.level (max grp.level (grp.config.raiseLevel (grp.idleCount - 1))))
          [0x00, 3, if circ.blockPending then 1 else 0] ∧
        t = { s with lif := t.lif, tgm := t.tgm } ∧
        t.tgm.circuits = s.tgm.circuits.put i { circ with state := .blocked } ∧
        t.group? circ.owner = some (Group.tested
          { grp with
            idleCount := grp.idleCount - 1,
            window := { grp.window with minIdle := min grp.window.minIdle (grp.idleCount - 1) } } s.tmb.now) ∧
        (∀ h, h ≠ circ.owner → t.group? h = s.group? h)) ∧
      (circ.state.isBusy = true ∨ circ.state.isGuard = true → ∃ t, exec (.block number body) s = .next t ∧
        Served s t 0x31 number [] [0x00, circ.state.code, 1] ∧
        t = { s with
          lif := t.lif,
          tgm := { s.tgm with circuits := s.tgm.circuits.put i { circ with blockPending := true } } }) ∧
      (circ.state = .blocked → ∃ t, exec (.block number body) s = .next t ∧
        Served s t 0x31 number [] [0x00, 3, if circ.blockPending then 1 else 0] ∧ t = { s with lif := t.lif })) ∧
    (Takes s 0x32 number body →
      (circ.state = .blocked → ∃ t, exec (.unblock number body) s = .next t ∧
        Served s t 0x32 number [] [0x00, 0, 0] ∧
        t = { s with lif := t.lif, tgm := t.tgm } ∧
        t.tgm.circuits = s.tgm.circuits.put i { circ with state := .idle, blockPending := false } ∧
        t.group? circ.owner = some { grp with idleCount := grp.idleCount + 1 } ∧
        (∀ h, h ≠ circ.owner → t.group? h = s.group? h)) ∧
      (circ.state ≠ .blocked → ∃ t, exec (.unblock number body) s = .next t ∧
        Served s t 0x32 number [] [0x00, circ.state.code, 0] ∧
        t = { s with
          lif := t.lif,
          tgm := { s.tgm with circuits := s.tgm.circuits.put i { circ with blockPending := false } } }))) ∧
  (∀ (s : State) (kind number : Byte) (body : List Byte), Takes s kind number body → kind = 0x31 ∨ kind = 0x32 →
    (body.length < 2 → Refused s kind number body [0x02]) ∧
    (∀ i rest, takeNumber 2 body = some (i, rest) → RefusedByFirst s kind number body
      [(16384 ≤ i, [0x03]), (s.circuit? i = none, [0x05])])) ∧
  (∀ c : CircuitState, c.code = match c with | .idle => 0 | .guarding _ => 1 | .busy _ => 2 | .blocked => 3)

/-- The end of a guard and a release (R29, R30): a circuit with block-pending set goes to BLOCKED and the flag is cleared, another
goes to IDLE and its group's idle count rises by one; a release by a guard time above 0 begins a guard, and by 0 ends it at once. -/
def Obligations.GuardEndsAndRelease : Prop :=
  (∀ (s : State) (i e : Nat) (circ : Circuit) (grp : Group), s.circuit? i = some circ → circ.state = .guarding e →
    e ≤ s.tmb.now → s.group? circ.owner = some grp →
    (circ.blockPending = true → exec (.guardExpiry i) s = .next { s with
      tgm := { s.tgm with circuits := s.tgm.circuits.put i { circ with state := .blocked, blockPending := false } } }) ∧
    (circ.blockPending = false → exec (.guardExpiry i) s = .next { s with
      tgm := { s.tgm with
        circuits := s.tgm.circuits.put i { circ with state := .idle },
        groups := s.tgm.groups.put circ.owner { grp with idleCount := grp.idleCount + 1 } } })) ∧
  (∀ (s : State) (i tag : Nat) (circ : Circuit) (grp : Group), s.circuit? i = some circ → circ.state = .busy tag →
    s.group? circ.owner = some grp →
    (0 < grp.config.guardTime → s.release i = some { s with
      tgm := { s.tgm with
        circuits := s.tgm.circuits.put i { circ with state := .guarding (s.tmb.now + grp.config.guardTime) } } }) ∧
    (grp.config.guardTime = 0 → circ.blockPending = true → s.release i = some { s with
      tgm := { s.tgm with circuits := s.tgm.circuits.put i { circ with state := .blocked, blockPending := false } } }) ∧
    (grp.config.guardTime = 0 → circ.blockPending = false → s.release i = some { s with
      tgm := { s.tgm with
        circuits := s.tgm.circuits.put i { circ with state := .idle },
        groups := s.tgm.groups.put circ.owner { grp with idleCount := grp.idleCount + 1 } } }))

/-- The raise function f (R40), tested from the top, on the thresholds as stored after the clamping of R20: the comparisons include
equality, equal thresholds skip levels, a threshold of 0 is reached only at idle count 0. -/
def Obligations.RaiseFunctionOfIdleCount : Prop :=
  (∀ (c : GroupConfig) (idle : Nat),
    (idle ≤ c.i3 → c.raiseLevel idle = 3) ∧
    (c.i3 < idle → idle ≤ c.i2 → c.raiseLevel idle = 2) ∧
    (c.i3 < idle → c.i2 < idle → idle ≤ c.i1 → c.raiseLevel idle = 1) ∧
    (c.i3 < idle → c.i2 < idle → c.i1 < idle → c.raiseLevel idle = 0) ∧
    (c.i1 = c.i2 → c.raiseLevel idle ≠ 1) ∧ (c.i2 = c.i3 → c.raiseLevel idle ≠ 2) ∧
    (c.i3 = 0 → (c.raiseLevel idle = 3 ↔ idle = 0)) ∧
    (c.circuitCount ≤ c.i3 → idle ≤ c.circuitCount → c.raiseLevel idle = 3) ∧
    (c.circuitCount ≤ c.i2 → idle ≤ c.circuitCount → 2 ≤ c.raiseLevel idle) ∧
    (c.circuitCount ≤ c.i1 → idle ≤ c.circuitCount → 1 ≤ c.raiseLevel idle)) ∧
  (∀ c : GroupConfig, c.storedAs c.clamped ∧ c.clamped.i3 ≤ c.clamped.i2 ∧ c.clamped.i2 ≤ c.clamped.i1 ∧
    c.clamped.i1 ≤ 480)

/-- The expiry of a window (R45, R46, R49, R51, R52): the level falls by one when the window's minimum idle count is above the
threshold of the level plus H; the window is recorded with the part clock and begins afresh; a fall queues STRAIN, stops the
escalation timer of level 3, and to level 1 or 0 of an IN_SERVICE group lifts the AUTO gaps. -/
def Obligations.WindowExpiryFallsAndRecords : Prop :=
  ∀ (s : State) (g e : Nat) (grp : Group) (falls : Bool) (level : Nat), Canonical s → s.group? g = some grp →
    grp.windowTimer = some e → e ≤ s.tmb.now →
    (falls = true ↔ 0 < grp.level ∧
      (if grp.level = 3 then grp.config.i3 else if grp.level = 2 then grp.config.i2 else grp.config.i1) +
        grp.config.hysteresis < grp.window.minIdle) →
    level = (if falls then grp.level - 1 else grp.level) →
    ∃ t, exec (.windowExpiry g) s = .next t ∧
      t = { s with lif := t.lif, tgm := { s.tgm with groups := t.tgm.groups }, gpc := { s.gpc with gaps := t.gpc.gaps } } ∧
      t.group? g = some
        { grp with
          level := level, lastWindow := some { counters := grp.window, endTime := s.tmb.clock },
          window :=
            { seizures := 0, overflows := 0, answers := 0, minIdle := grp.idleCount, maxBusy := s.busyCount g },
          windowTimer :=
            if grp.config.windowLength = 0 then none else some (s.tmb.now + grp.config.windowLength * 1000),
          escalationTimer := if falls ∧ grp.level = 3 then none else grp.escalationTimer } ∧
      (∀ h, h ≠ g → t.group? h = s.group? h) ∧
      (falls = true → level ≤ 1 → grp.service = .inService →
        t.gpc.gaps = gapsAfterFall s g ∧
          t.lif = (.strain g level :: gapOffsOffered s g).foldl Lif.offer s.lif) ∧
      (falls = false ∨ 1 < level ∨ grp.service ≠ .inService →
        t.gpc.gaps = s.gpc.gaps ∧ t.lif = (strainOffered g grp.level level).foldl Lif.offer s.lif)

/-- The restoral timers (R101, R106, R108): Ts opens the trial with Tw, Tq opens its second probe, and Tw suspends the group again
with cause REOPEN_LAPSED, releasing a probe, whose call lives on. -/
def Obligations.RestoralTimersMoveTrial : Prop :=
  ∀ (s : State) (g e : Nat) (grp : Group), s.group? g = some grp → e ≤ s.tmb.now →
    (grp.service = .suspended → grp.tsTimer = some e →
      exec (.tsExpiry g) s = .next { s with
        tgm := { s.tgm with
          groups := s.tgm.groups.put g
            { grp with
              service := .reopenFirst, tsTimer := none, twTimer := some (s.tmb.now + grp.config.tw * 1000) } } }) ∧
    (grp.service = .reopenQuiet → grp.tqTimer = some e →
      exec (.tqExpiry g) s = .next { s with
        tgm := { s.tgm with groups := s.tgm.groups.put g { grp with service := .reopenSecond, tqTimer := none } } }) ∧
    (grp.service = .reopenFirst ∨ grp.service = .reopenQuiet ∨ grp.service = .reopenSecond → grp.twTimer = some e →
      ∃ t, exec (.twExpiry g) s = .next t ∧
        t = { s with lif := t.lif, tgm := { s.tgm with groups := t.tgm.groups }, ctb := t.ctb } ∧
        t.lif = s.lif.offer (.suspended g .reopenLapsed 0) ∧
        t.group? g = some
          { grp with
            service := .suspended, faultCount := 0, probe := none, twTimer := none, tqTimer := none,
            tsTimer := some (s.tmb.now + grp.config.ts * 1000) } ∧
        (∀ h, h ≠ g → t.group? h = s.group? h) ∧
        (∀ tag, t.call? tag =
          (s.call? tag).map (fun c => if grp.probe = some tag then { c with probe := false } else c)))

/-- A report of a call event to the group of its circuit (R35, R36, R44, R82, R100, R102 to R105, R107), every field of the group
given: the fault count, the suspension, the evidence by the state held when the report is taken, the probe's release, and the
window answers. Nothing else changes but the probe flag of the call and the advisory of a suspension or a restoration. -/
def Obligations.CallReportActsOnGroup : Prop :=
  ∀ (s : State) (tag g : Nat) (ev : CallEvent) (grp : Group) (isProbe success failure suspends restored : Bool),
    s.group? g = some grp →
    (isProbe = true ↔ grp.probe = some tag) →
    (success = true ↔ isProbe = true ∧ (ev = .progress ∨ ev = .answer ∨ ev = .farBusy)) →
    (failure = true ↔ ev = .circuitFault ∨ ev = .supervision) →
    (suspends = true ↔ failure = true ∧ grp.service = .inService ∧
      grp.config.suspensionCount ≤ min 255 (grp.faultCount + 1)) →
    (restored = true ↔ success = true ∧ grp.service = .reopenSecond) →
    ∃ t, s.report tag g ev = some t ∧
      t = { s with lif := t.lif, tgm := { s.tgm with groups := t.tgm.groups }, ctb := t.ctb } ∧
      t.lif =
        (if suspends then [Advisory.suspended g .faultRun grp.config.suspensionCount]
         else if restored then [Advisory.restored g grp.level] else []).foldl Lif.offer s.lif ∧
      t.group? g = some
        { grp with
          service :=
            if suspends then .suspended
            else if restored then .inService
            else if success ∧ grp.service = .reopenFirst then .reopenQuiet
            else if failure ∧ (grp.service = .reopenQuiet ∨ grp.service = .reopenSecond) then .reopenFirst
            else grp.service,
          faultCount :=
            if suspends ∨ restored then 0
            else if failure then min 255 (grp.faultCount + 1)
            else if ev = .progress ∨ ev = .answer ∨ ev = .farBusy then 0
            else grp.faultCount,
          probe := if isProbe then none else grp.probe,
          tsTimer := if suspends then some (s.tmb.now + grp.config.ts * 1000) else grp.tsTimer,
          tqTimer :=
            if success ∧ grp.service = .reopenFirst then some (s.tmb.now + grp.config.tq * 1000)
            else if failure ∧ grp.service = .reopenQuiet then none
            else grp.tqTimer,
          twTimer := if restored then none else grp.twTimer,
          window :=
            { grp.window with
              answers := if ev = .answer then min 4294967295 (grp.window.answers + 1) else grp.window.answers } } ∧
      (∀ h, h ≠ g → t.group? h = s.group? h) ∧
      (∀ other, t.call? other =
        (s.call? other).map (fun c => if isProbe ∧ other = tag then { c with probe := false } else c))

/-! ### Route selection -/

/-- The candidate test (R61 to R65) with the digit treatment (R14): the conditions in order, the first that fails
decides. The current multiplier of a group is that of its level (R53), and its present rate (R64, R133) is the rate per minute of a
step charge of its class at that multiplier and the tier of its carrier's running bank, over the class's interval D. -/
def Obligations.CandidateTestConditions : Prop :=
  (∀ (s : State) (ceiling : Option Nat) (cls : CallClass) (number : Digits) (position g : Nat),
    (s.group? g = none → s.testCandidate ceiling cls number position g = some (.skipped .unavailable)) ∧
    (∀ (grp : Group) (opens : Bool) (outgoing : Digits), s.group? g = some grp →
      (opens = true ↔ grp.service = .inService ∨
        ((grp.service = .reopenFirst ∨ grp.service = .reopenSecond) ∧ grp.probe = none ∧ cls = .ordinary)) →
      outgoing = grp.config.insertDigits ++ number.drop grp.config.deleteCount →
      (opens = false → s.testCandidate ceiling cls number position g = some (.skipped .unavailable)) ∧
      (opens = true → grp.idleCount = 0 →
        s.testCandidate ceiling cls number position g = some (.skipped .noCircuit)) ∧
      (opens = true → 0 < grp.idleCount → 2 ≤ position → cls ≠ .priority →
        (grp.idleCount ≤ grp.config.reservation ∨ 3 ≤ grp.level) →
        s.testCandidate ceiling cls number position g = some (.skipped .strained)) ∧
      (opens = true → 0 < grp.idleCount →
        (position ≤ 1 ∨ cls = .priority ∨ (grp.config.reservation < grp.idleCount ∧ grp.level < 3)) →
        ∀ rate, s.presentRate grp = some rate →
          (∀ c, ceiling = some c → cls ≠ .priority → c < rate →
            s.testCandidate ceiling cls number position g = some (.skipped .ceiling)) ∧
          ((∀ c, ceiling = some c → cls = .priority ∨ rate ≤ c) →
            (outgoing.length = 0 ∨ 20 < outgoing.length →
              s.testCandidate ceiling cls number position g = some (.skipped .digits)) ∧
            (1 ≤ outgoing.length → outgoing.length ≤ 20 →
              s.testCandidate ceiling cls number position g = some (.usable
                { position := position, group := g, multiplier := grp.multiplier, rate := rate,
                  outgoing := outgoing, asProbe := decide (grp.service ≠ .inService) })))))) ∧
  (∀ grp : Group,
    (grp.level = 0 → grp.multiplier = grp.config.m0) ∧ (grp.level = 1 → grp.multiplier = grp.config.m1) ∧
    (grp.level = 2 → grp.multiplier = grp.config.m2) ∧ (grp.level = 3 → grp.multiplier = grp.config.m3)) ∧
  (∀ (s : State) (grp : Group) (t : TariffClass) (a : Account),
    s.tariff? grp.config.tariffClass = some t → s.account? grp.config.carrier = some a →
    s.presentRate grp = some
      (ratePerMinute (stepCharge t.active.price grp.multiplier (a.config.factor a.running.steps))
        ((t.active.interval + 1) * 16 + t.active.fine)))

/-- The candidate order (R60) and the search (R66, R67, R73). The positions are tested one after another: the first
usable candidate is taken and ends the search with the state as it then stands; a skipped one is recorded and the search goes on,
with one overflow more at its group, saturating, for NO_CIRCUIT and STRAINED and nothing changed for any other condition; when none
is left the search ends with the conditions recorded. So only overflow counts change, a candidate taken stands in the order at its
position, and a search without one is denied with the first name of the list of R73 that was recorded. -/
def Obligations.SearchOrderAndCause : Prop :=
  (∀ (p : Plan) (cls : CallClass), 1 ≤ p.choices.length →
    (cls = .onward → p.order cls = [1]) ∧
    (cls ≠ .onward → p.mode = .fixed ∨ p.choices.length = 1 → p.order cls = List.range' 1 p.choices.length) ∧
    (∀ sp, cls ≠ .onward → p.mode = .sticky → 2 ≤ p.choices.length → p.stickyPosition = some sp →
      p.order cls = 1 :: sp :: (List.range' 2 (p.choices.length - 1)).filter (fun i => decide (i ≠ sp)))) ∧
  (∀ (plan : Plan) (cls : CallClass) (number : Digits) (order : List Nat) (seen : List Cause) (s t : State) (found : Found),
    search plan cls number order seen s = some (t, found) →
    t = { s with tgm := { s.tgm with groups := t.tgm.groups } } ∧
    (∀ g, (t.group? g).map (fun grp => { grp with window := { grp.window with overflows := 0 } }) =
      (s.group? g).map (fun grp => { grp with window := { grp.window with overflows := 0 } })) ∧
    (∀ c, found = .taken c → c.position ∈ order ∧ plan.choices[c.position - 1]? = some c.group ∧
      t.testCandidate plan.ceiling cls number c.position c.group = some (.usable c))) ∧
  (∀ (plan : Plan) (cls : CallClass) (number : Digits) (seen : List Cause) (s : State),
    search plan cls number [] seen s = some (s, .exhausted seen) ∧
    ∀ (position : Nat) (rest : List Nat),
      (plan.choices[position - 1]? = none →
        search plan cls number (position :: rest) seen s = search plan cls number rest seen s) ∧
      (∀ g, plan.choices[position - 1]? = some g →
        (∀ c, s.testCandidate plan.ceiling cls number position g = some (.usable c) →
          search plan cls number (position :: rest) seen s = some (s, .taken c) ∧ c.position = position ∧ c.group = g) ∧
        (∀ condition, s.testCandidate plan.ceiling cls number position g = some (.skipped condition) →
          (condition ≠ .noCircuit → condition ≠ .strained →
            search plan cls number (position :: rest) seen s = search plan cls number rest (condition :: seen) s) ∧
          (condition = .noCircuit ∨ condition = .strained → ∃ grp, s.group? g = some grp ∧
            search plan cls number (position :: rest) seen s =
              search plan cls number rest (condition :: seen) { s with
                tgm := { s.tgm with
                  groups := s.tgm.groups.put g
                    { grp with
                      window := { grp.window with overflows := min 4294967295 (grp.window.overflows + 1) } } } })))) ∧
  (∀ conditions : List Cause,
    chooseCause conditions =
      if .ceiling ∈ conditions then .ceiling
      else if .strained ∈ conditions then .strained
      else if .noCircuit ∈ conditions then .noCircuit
      else if .digits ∈ conditions then .digits
      else .unavailable)

/-- The hunt and the seizure of a grant (R27, R28, R41, R44, R68 to R70): the circuit chosen was IDLE and the group's, and the first
by the hunt order; it is BUSY with the call's tag, the idle count has fallen, the seizure is counted, the raise test has run, the
probe is marked, and the sticky position is set if the grant calls for it. A group with an IDLE circuit always yields one. -/
def Obligations.GrantHuntsAndSeizes : Prop :=
  (∀ (s : State) (tag plan : Nat) (cand : Candidate) (grp : Group) (i : Nat) (circ : Circuit),
    s.group? cand.group = some grp → s.circuit? i = some circ → circ.owner = cand.group → circ.state = .idle →
    (s.grant tag plan cand).isSome = true) ∧
  (∀ (s t : State) (tag plan circuit : Nat) (cand : Candidate), Canonical s →
    s.grant tag plan cand = some (t, circuit) →
    ∃ grp circ, s.group? cand.group = some grp ∧ s.circuit? circuit = some circ ∧ circ.owner = cand.group ∧
      circ.state = .idle ∧
      (∀ j other, s.circuit? j = some other → other.owner = cand.group → other.state = .idle →
        (grp.config.hunt = .ascending → circuit ≤ j) ∧ (grp.config.hunt = .descending → j ≤ circuit) ∧
        (grp.config.hunt = .rotating →
          (grp.rotatePosition < circuit ∧ (j ≤ grp.rotatePosition ∨ circuit ≤ j)) ∨
          (circuit ≤ grp.rotatePosition ∧ j ≤ grp.rotatePosition ∧ circuit ≤ j))) ∧
      t = { s with lif := t.lif, tgm := t.tgm, rsl := { s.rsl with plans := t.rsl.plans } } ∧
      t.tgm.circuits = s.tgm.circuits.put circuit { owner := cand.group, state := .busy tag, blockPending := false } ∧
      t.group? cand.group = some (Group.tested
        { grp with
          rotatePosition := if grp.config.hunt = .rotating then circuit else grp.rotatePosition,
          probe := if cand.asProbe then some tag else grp.probe,
          idleCount := grp.idleCount - 1,
          window :=
            { grp.window with
              seizures := min 4294967295 (grp.window.seizures + 1),
              minIdle := min grp.window.minIdle (grp.idleCount - 1),
              maxBusy := max grp.window.maxBusy (t.busyCount cand.group) } } s.tmb.now) ∧
      (∀ h, h ≠ cand.group → t.group? h = s.group? h) ∧
      t.lif = (strainOffered cand.group grp.level (max grp.level (grp.config.raiseLevel (grp.idleCount - 1)))).foldl
        Lif.offer s.lif ∧
      (∀ p, t.plan? p = (s.plan? p).map (fun q => if p = plan then q.grantSticky cand.position else q)))

/-- SEEK granted (R57 to R59, R67, R68, R71, R72): after the checks, the lookup and the gap admission, which a PRIORITY call skips,
the search takes a candidate, the grant is made, the call is recorded in SEIZING, and the reply is GRANT. The padding
of an odd outgoing number is sent as 0 (the model's choice, log 35). -/
def Obligations.SeekGrantsCall : Prop :=
  ∀ (s s1 s2 : State) (number : Byte) (body : List Byte) (f : SeekFields) (cls : CallClass) (e : PrefixEntry) (plan : Plan)
    (gaps : Table Gap) (cand : Candidate) (grp : Group) (circuit : Nat),
    Takes s 0x20 number body → readSeek body = some f → f.tag ≠ 0 → digitsIn 1 16 f.number = true →
    callClassOf f.classByte = some cls → f.incoming < 128 → (s.account? f.incoming).isSome = true →
    s.call? f.tag = none → longestMatch f.number s.rsl.prefixes = some e → s.plan? e.plan = some plan →
    ((cls = .priority ∧ gaps = s.gpc.gaps) ∨
      (cls ≠ .priority ∧ admission s.tmb.now f.number e.plan s.gpc.gaps = (true, gaps))) →
    search plan cls f.number (plan.order cls) [] (s.popRequest.setGaps gaps) = some (s1, .taken cand) →
    s1.group? cand.group = some grp → s1.grant f.tag e.plan cand = some (s2, circuit) →
    exec (.seek number body) s = .next
      ((s2.putCall f.tag
        { number := f.number, circuit := circuit, group := cand.group, plan := e.plan, position := cand.position,
          callClass := cls, incoming := f.incoming, attempts := 1, state := .seizing, multiplier := cand.multiplier,
          tariffClass := grp.config.tariffClass, probe := cand.asProbe, grantTime := s.tmb.clock, answerTime := none,
          steps := 0, payable := 0, receivable := 0, supervision := some (s.tmb.now + grp.config.seizureTime),
          chargeStep := none }).reply 0x20 number
        (0x10 :: (putNumber 2 cand.group ++ putNumber 2 circuit ++ putNumber 1 cand.position ++
          [if cand.asProbe then 1 else 0] ++ putNumber 4 cand.rate ++ putDigits cand.outgoing)))

/-- SEEK refused or denied. The checks of R57 refuse in order, the first condition that holds deciding. Then (R58, R59,
R73, R74) NO_PREFIX leaves every record as it was; GAPPED leaves the refusal counted; a search with no candidate taken is denied with
the cause of R73 and the plan, and leaves the gap slots and the overflow counts. The plan index stands behind a presence byte,
which is 0 for NO_PREFIX (the model's reading of R74 and R182, log 33). The cause codes are those of R181. -/
def Obligations.SeekDeniesCall : Prop :=
  (∀ (s : State) (number : Byte) (body : List Byte) (f : SeekFields) (cls : CallClass),
    Takes s 0x20 number body → readSeek body = some f → f.tag ≠ 0 → digitsIn 1 16 f.number = true →
    callClassOf f.classByte = some cls → f.incoming < 128 → (s.account? f.incoming).isSome = true →
    s.call? f.tag = none →
    (longestMatch f.number s.rsl.prefixes = none →
      ∃ t, exec (.seek number body) s = .next t ∧ Served s t 0x20 number [] [0x12, 0x01, 0] ∧ t = { s with lif := t.lif }) ∧
    (∀ e plan, longestMatch f.number s.rsl.prefixes = some e → s.plan? e.plan = some plan →
      (∀ gaps, cls ≠ .priority → admission s.tmb.now f.number e.plan s.gpc.gaps = (false, gaps) →
        ∃ t, exec (.seek number body) s = .next t ∧
          Served s t 0x20 number [] (0x12 :: 0x02 :: 1 :: putNumber 2 e.plan) ∧
          t = { s with lif := t.lif, gpc := { s.gpc with gaps := gaps } }) ∧
      (∀ gaps s1 conditions,
        ((cls = .priority ∧ gaps = s.gpc.gaps) ∨
          (cls ≠ .priority ∧ admission s.tmb.now f.number e.plan s.gpc.gaps = (true, gaps))) →
        search plan cls f.number (plan.order cls) [] (s.popRequest.setGaps gaps) = some (s1, .exhausted conditions) →
        exec (.seek number body) s =
          .next (s1.reply 0x20 number (0x12 :: (chooseCause conditions).code :: 1 :: putNumber 2 e.plan))))) ∧
  (∀ (s : State) (number : Byte) (body : List Byte), Takes s 0x20 number body →
    (body.length < 6 + digitsSize body 4 → Refused s 0x20 number body [0x02]) ∧
    (∀ f, readSeek body = some f → RefusedByFirst s 0x20 number body
      [(f.tag = 0 ∨ BadDigits 1 16 f.number ∨ 2 < f.classByte, [0x04]), (128 ≤ f.incoming, [0x03]),
        (s.account? f.incoming = none, [0x0F]), ((s.call? f.tag).isSome = true, [0x09])])) ∧
  (∀ c : Cause, c.code =
    match c with
    | .noPrefix => 0x01 | .gapped => 0x02 | .ceiling => 0x03 | .strained => 0x04 | .noCircuit => 0x05 | .digits => 0x06
    | .unavailable => 0x07 | .farBusy => 0x08 | .farCongestion => 0x09 | .circuitFault => 0x0A)

/-! ### Calls -/

/-- The checks of PROGRESS, ANSWER, FAIL and CLEAR (R79): a body too short; a tag of 0, or for FAIL a cause or a flag out of range;
a tag that is not live, answered with the tag; and a state that does not take the request (R78), answered with the tag and the state;
the first that holds decides, and nothing changes. -/
def Obligations.CallRequestChecks : Prop :=
  (∀ (s : State) (kind number : Byte) (body : List Byte),
    Takes s kind number body → kind = 0x21 ∨ kind = 0x22 ∨ kind = 0x24 →
    (body.length < 4 → Refused s kind number body [0x02]) ∧
    (∀ tag rest, takeNumber 4 body = some (tag, rest) →
      RefusedByFirst s kind number body
        [(tag = 0, [0x04]), (s.call? tag = none, 0x0A :: putNumber 4 tag)] ∧
      (∀ call, tag ≠ 0 → s.call? tag = some call →
        (kind = 0x21 ∧ call.state ≠ .seizing) ∨ (kind = 0x22 ∧ call.state = .answered) →
        Refused s kind number body (0x0B :: (putNumber 4 tag ++ [call.state.code]))))) ∧
  (∀ (s : State) (number : Byte) (body : List Byte), Takes s 0x23 number body →
    (body.length < 6 → Refused s 0x23 number body [0x02]) ∧
    (∀ tag cause flag, readFail body = some (tag, cause, flag) →
      RefusedByFirst s 0x23 number body
        [(tag = 0 ∨ (cause ≠ 8 ∧ cause ≠ 9 ∧ cause ≠ 10) ∨ 1 < flag, [0x04]),
          (s.call? tag = none, 0x0A :: putNumber 4 tag),
          (∃ call, s.call? tag = some call ∧ call.state = .answered, 0x0B :: (putNumber 4 tag ++ [2]))]))

/-- PROGRESS and CLEAR (R80, R92): the event is reported to the group of the call's circuit; the call goes to ALERTING
with its supervision stopped, or is removed with its circuit released; the reply carries the call as the rule says. At the expiry of
seizure supervision (R84) the expiry is reported and the circuit released, the sticky position advances, a TIMEOUT is queued and the
record is removed. A report of an event that releases the circuit (R82, R103) is the report and then the release of R29 as that
report left the group. -/
def Obligations.ProgressClearAndTimeout : Prop :=
  (∀ (s : State) (number : Byte) (body rest : List Byte) (tag : Nat) (call : Call) (grp : Group),
     takeNumber 4 body = some (tag, rest) → tag ≠ 0 → s.call? tag = some call → s.group? call.group = some grp →
     (Takes s 0x21 number body → call.state = .seizing →
       ∃ r t, s.report tag call.group .progress = some r ∧ exec (.progress number body) s = .next t ∧
         t = { r with lif := t.lif, ctb := t.ctb } ∧
         t.lif = { r.lif with
           requests := s.lif.requests.tail,
           replies := s.lif.replies ++
             [{ kind := 0xA1, number := number, body := t.summaryByte :: 0x00 :: (putNumber 4 tag ++ [1]) }] } ∧
         (∀ other, t.call? other = (r.call? other).map (fun c =>
           if other = tag then { c with state := .alerting, supervision := none } else c))) ∧
     (∀ circ busy, Takes s 0x24 number body → s.circuit? call.circuit = some circ → circ.owner = call.group →
       circ.state = .busy busy →
       ∃ r t, s.reportRelease tag call.group call.circuit .clear = some r ∧ exec (.clear number body) s = .next t ∧
         t = { r with lif := t.lif, ctb := r.ctb.erase tag } ∧
         t.lif = { r.lif with
           requests := s.lif.requests.tail,
           replies := s.lif.replies ++
             [{ kind := 0xA4, number := number,
                body := t.summaryByte :: 0x00 :: (putNumber 4 tag ++ [call.state.code] ++ putNumber 4 call.steps ++
                  putNumber 5 call.payable ++ putNumber 5 call.receivable) }] })) ∧
  (∀ (s : State) (tag e : Nat) (call : Call) (grp : Group) (circ : Circuit) (busy : Nat),
     s.call? tag = some call → call.state = .seizing → call.supervision = some e → e ≤ s.tmb.now →
     s.group? call.group = some grp → s.circuit? call.circuit = some circ → circ.owner = call.group →
     circ.state = .busy busy →
     ∃ r, s.reportRelease tag call.group call.circuit .supervision = some r ∧
       exec (.seizureSupervisionExpiry tag) s =
         .next (((r.advanceSticky call.plan call.position).offer (.timeout tag call.group call.circuit)).eraseCall tag)) ∧
  (∀ (s : State) (tag g i : Nat) (ev : CallEvent),
    s.reportRelease tag g i ev = (s.report tag g ev).bind (fun reported => reported.release i))

/-- ANSWER (R81, R128 to R131, R136, R138, R140): the setup is owed both ways, the handover and the transit are counted, the first
step is priced at the tier the outgoing account held before, the call's totals rise by the amounts, its step count is 1, and its
charge-step timer starts with D. The same carrier on both sides takes both. -/
def Obligations.AnswerAccruesSetupAndFirstStep : Prop :=
  ∀ (s : State) (number : Byte) (body rest : List Byte) (tag : Nat) (call : Call) (grp : Group) (tariff : TariffClass)
    (out inc : Account) (setup step : Nat),
    Takes s 0x22 number body → takeNumber 4 body = some (tag, rest) → tag ≠ 0 → s.call? tag = some call →
    (call.state = .seizing ∨ call.state = .alerting) → s.group? call.group = some grp →
    s.tariff? call.tariffClass = some tariff → s.account? grp.config.carrier = some out →
    s.account? call.incoming = some inc → setup = (tariff.active.setup * call.multiplier + 32) / 64 →
    step = (tariff.active.price * call.multiplier * out.config.factor out.running.steps + 2048) / 4096 →
    ∃ r t answered, s.report tag call.group .answer = some r ∧ exec (.answer number body) s = .next t ∧
      t = { r with lif := t.lif, ctb := r.ctb.put tag answered, chu := { s.chu with accounts := t.chu.accounts } } ∧
      answered =
        { call with
          state := .answered, answerTime := some s.tmb.clock, supervision := none, steps := 1,
          probe := if grp.probe = some tag then false else call.probe,
          chargeStep := some (s.tmb.now + ((tariff.active.interval + 1) * 16 + tariff.active.fine)),
          payable := min 1099511627775 (call.payable + (setup + step)),
          receivable := min 1099511627775 (call.receivable + (setup + (step + inc.config.margin))) } ∧
      (∀ k, t.account? k = (s.account? k).map (fun a =>
        a.onRunning (fun b =>
          let paid := if k = grp.config.carrier
            then (((b.addPayable setup).addHandover).addPayable step).addStep else b
          if k = call.incoming then ((paid.addReceivable setup).addTransit).addReceivable (step + inc.config.margin)
          else paid))) ∧
      t.lif = { r.lif with
        requests := s.lif.requests.tail,
        replies := s.lif.replies ++
          [{ kind := 0xA2, number := number,
             body := t.summaryByte :: 0x00 :: (putNumber 4 tag ++ putNumber 4 1 ++ putNumber 5 answered.payable ++
               putNumber 5 answered.receivable) }] }

/-- FAIL that ends the call (R87, R88, R91): the event is reported and the circuit released, the sticky position advances unless the
called party is busy, and the reply is FINAL with the FAIL's cause where R88 forbids a continuation, or with the cause of R73 where
the continuation took no candidate; the record is removed. -/
def Obligations.FailEndsCall : Prop :=
  ∀ (s : State) (number : Byte) (body : List Byte) (tag causeByte flag : Nat) (ev : CallEvent) (cause : Cause) (call : Call)
    (grp : Group) (circ : Circuit) (busy : Nat),
    Takes s 0x23 number body → readFail body = some (tag, causeByte, flag) → tag ≠ 0 → flag ≤ 1 →
    ((causeByte = 8 ∧ ev = .farBusy ∧ cause = .farBusy) ∨
      (causeByte = 9 ∧ ev = .farCongestion ∧ cause = .farCongestion) ∨
      (causeByte = 10 ∧ ev = .circuitFault ∧ cause = .circuitFault)) →
    s.call? tag = some call → call.state ≠ .answered → s.group? call.group = some grp →
    s.circuit? call.circuit = some circ → circ.owner = call.group → circ.state = .busy busy →
    ∃ r, s.popRequest.reportRelease tag call.group call.circuit ev = some r ∧
      ∀ r' plan, r' = (if ev = .farBusy then r else r.advanceSticky call.plan call.position) →
        r'.plan? call.plan = some plan →
        ((ev = .farBusy ∨ flag = 0 ∨ call.callClass = .onward ∨ plan.crankbackLimit < call.attempts ∨
            plan.choices.length < call.position + 1) →
          exec (.fail number body) s = .next ((r'.eraseCall tag).reply 0x23 number
            (0x13 :: (putNumber 4 tag ++ putNumber 1 call.attempts ++ [cause.code])))) ∧
        (∀ s1 conditions, ev ≠ .farBusy → flag = 1 → call.callClass ≠ .onward → call.attempts ≤ plan.crankbackLimit →
          call.position + 1 ≤ plan.choices.length →
          search plan call.callClass call.number
            (List.range' (call.position + 1) (plan.choices.length - call.position)) [] r' =
              some (s1, .exhausted conditions) →
          exec (.fail number body) s = .next ((s1.eraseCall tag).reply 0x23 number
            (0x13 :: (putNumber 4 tag ++ putNumber 1 call.attempts ++ [(chooseCause conditions).code]))))

/-- FAIL that continues the call (R88 to R90): the positions after the call's own are searched in rising order, and the candidate
taken is granted to the same record, with its attempt count one higher; the reply is REGRANT. The padding of an odd outgoing number is sent
as 0 (the model's choice, log 35). -/
def Obligations.FailContinuesCall : Prop :=
  ∀ (s r r' s1 s2 : State) (number : Byte) (body : List Byte) (tag causeByte : Nat) (ev : CallEvent) (call : Call)
    (plan : Plan) (cand : Candidate) (grp : Group) (circuit : Nat),
    Takes s 0x23 number body → readFail body = some (tag, causeByte, 1) → tag ≠ 0 →
    ((causeByte = 9 ∧ ev = .farCongestion) ∨ (causeByte = 10 ∧ ev = .circuitFault)) →
    s.call? tag = some call → call.state ≠ .answered → call.callClass ≠ .onward →
    s.popRequest.reportRelease tag call.group call.circuit ev = some r →
    r' = r.advanceSticky call.plan call.position → r'.plan? call.plan = some plan →
    call.attempts ≤ plan.crankbackLimit → call.position + 1 ≤ plan.choices.length →
    search plan call.callClass call.number
      (List.range' (call.position + 1) (plan.choices.length - call.position)) [] r' = some (s1, .taken cand) →
    s1.group? cand.group = some grp → s1.grant tag call.plan cand = some (s2, circuit) →
    exec (.fail number body) s = .next
      ((s2.putCall tag
        { call with
          circuit := circuit, group := cand.group, position := cand.position, attempts := call.attempts + 1,
          state := .seizing, multiplier := cand.multiplier, tariffClass := grp.config.tariffClass,
          probe := cand.asProbe, grantTime := s.tmb.clock,
          supervision := some (s.tmb.now + grp.config.seizureTime), chargeStep := none }).reply 0x23 number
        (0x11 :: (putNumber 2 cand.group ++ putNumber 2 circuit ++ putNumber 1 cand.position ++
          [if cand.asProbe then 1 else 0] ++ putNumber 4 cand.rate ++ putDigits cand.outgoing ++ putNumber 4 tag ++
          putNumber 1 (call.attempts + 1))))

/-- A charge step (R86, R127 to R129, R131, R137, R140): priced by the active unit price, the locked multiplier and the tier of the
outgoing account before the step; it credits the two accounts and the call's totals, and the timer restarts with D. -/
def Obligations.ChargeStepAccrues : Prop :=
  ∀ (s : State) (tag e : Nat) (call : Call) (grp : Group) (tariff : TariffClass) (out inc : Account) (step : Nat),
    s.call? tag = some call → call.state = .answered → call.chargeStep = some e → e ≤ s.tmb.now →
    s.group? call.group = some grp → s.tariff? call.tariffClass = some tariff →
    s.account? grp.config.carrier = some out → s.account? call.incoming = some inc →
    step = (tariff.active.price * call.multiplier * out.config.factor out.running.steps + 2048) / 4096 →
    ∃ t, exec (.chargeStepExpiry tag) s = .next t ∧
      t = { s with
        chu := { s.chu with accounts := t.chu.accounts },
        ctb := s.ctb.put tag
          { call with
            chargeStep := some (s.tmb.now + ((tariff.active.interval + 1) * 16 + tariff.active.fine)),
            steps := min 4294967295 (call.steps + 1),
            payable := min 1099511627775 (call.payable + step),
            receivable := min 1099511627775 (call.receivable + (step + inc.config.margin)) } } ∧
      (∀ k, t.account? k = (s.account? k).map (fun a =>
        a.onRunning (fun b =>
          let paid := if k = grp.config.carrier then (b.addPayable step).addStep else b
          if k = call.incoming then paid.addReceivable (step + inc.config.margin) else paid)))

/-! ### Pricing -/

/-- The arithmetic of pricing (R127, R128, R130 to R132): the tier by the step count tested from the top, the charges rounded half
up, the interval and the rate, with the ranges the manual gives them. An addition to an accumulator (R139) holds at 2^36 - 1 when it
would pass it and sets its mark then and only then, a count holds at 2^32 - 1, and no other field changes. -/
def Obligations.PricingAndSaturation : Prop :=
  (∀ (a : AccountConfig) (n : Nat),
    (n < a.b1 → a.tier n = 0 ∧ a.factor n = a.t0) ∧
    (a.b1 ≤ n → n < a.b2 → a.tier n = 1 ∧ a.factor n = a.t1) ∧
    (a.b1 ≤ n → a.b2 ≤ n → n < a.b3 → a.tier n = 2 ∧ a.factor n = a.t2) ∧
    (a.b1 ≤ n → a.b2 ≤ n → a.b3 ≤ n → a.tier n = 3 ∧ a.factor n = a.t3)) ∧
  (∀ p m t : Nat,
    4096 * stepCharge p m t ≤ p * m * t + 2048 ∧ p * m * t + 2048 < 4096 * (stepCharge p m t + 1) ∧
    (p ≤ 65535 → m ≤ 255 → t ≤ 255 → stepCharge p m t ≤ 1040384)) ∧
  (∀ s m : Nat,
    64 * setupCharge s m ≤ s * m + 32 ∧ s * m + 32 < 64 * (setupCharge s m + 1) ∧
    (s ≤ 65535 → m ≤ 255 → setupCharge s m ≤ 261116)) ∧
  (∀ v : TariffValues, v.intervalMs = (v.interval + 1) * 16 + v.fine ∧
    (v.interval ≤ 4095 → v.fine ≤ 15 → 16 ≤ v.intervalMs ∧ v.intervalMs ≤ 65551)) ∧
  (∀ c d : Nat, 16 ≤ d →
    d * ratePerMinute c d ≤ c * 60000 + d / 2 ∧ c * 60000 + d / 2 < d * (ratePerMinute c d + 1) ∧
    (c ≤ 1040384 → ratePerMinute c d ≤ 3901440000) ∧ ratePerMinute c 16 = 3750 * c ∧ ratePerMinute c 60000 = c) ∧
  (∀ (b : Bank) (amount : Nat),
     (b.payable + amount ≤ 68719476735 → b.addPayable amount = { b with payable := b.payable + amount }) ∧
     (68719476735 < b.payable + amount →
       b.addPayable amount = { b with payable := 68719476735, payableMark := true }) ∧
     (b.receivable + amount ≤ 68719476735 → b.addReceivable amount = { b with receivable := b.receivable + amount }) ∧
     (68719476735 < b.receivable + amount →
       b.addReceivable amount = { b with receivable := 68719476735, receivableMark := true }) ∧
     (b.steps ≤ 4294967295 → b.addStep = { b with steps := if b.steps = 4294967295 then b.steps else b.steps + 1 }) ∧
     (b.handovers ≤ 4294967295 →
       b.addHandover = { b with handovers := if b.handovers = 4294967295 then b.handovers else b.handovers + 1 }) ∧
     (b.transits ≤ 4294967295 →
       b.addTransit = { b with transits := if b.transits = 4294967295 then b.transits else b.transits + 1 }))

/-! ### Accounts and periods -/

/-- SET_CARRIER, DEL_CARRIER and SET_PERIOD (R145 to R147, R149): the checks refuse in the order of the rule, the first condition that holds deciding,
DEL_CARRIER with the reason of IN_USE; the account is created with zeroed banks or keeps the banks it
has, its thresholds put in order; it is deleted when nothing names it and its money is gone; the period length is clamped and its
timer starts afresh unless a hold is held. -/
def Obligations.AccountRequestsServed : Prop :=
  (∀ (s : State) (number : Byte) (body : List Byte) (k : Nat) (c stored : AccountConfig),
    Takes s 0x06 number body → readSetCarrier body = some (k, c) → k < 128 →
    stored = { c with b2 := max c.b1 c.b2, b3 := max (max c.b1 c.b2) c.b3 } →
    ∃ t, exec (.setCarrier number body) s = .next t ∧
      Served s t 0x06 number []
        (0x00 :: (putOptional AccountConfig.layout ((s.account? k).map (·.config)) ++ stored.layout)) ∧
      t = { s with lif := t.lif, chu := { s.chu with accounts := t.chu.accounts } } ∧
      (s.account? k = none → t.account? k = some
        { config := stored,
          running :=
            { payable := 0, receivable := 0, steps := 0, handovers := 0, transits := 0, payableMark := false,
              receivableMark := false },
          closed :=
            { bank :=
                { payable := 0, receivable := 0, steps := 0, handovers := 0, transits := 0, payableMark := false,
                  receivableMark := false },
              closedAt := none, tariffMark := false, collected := true } }) ∧
      (∀ a, s.account? k = some a → t.account? k = some { a with config := stored }) ∧
      (∀ j, j ≠ k → t.account? j = s.account? j)) ∧
  (∀ (s : State) (number : Byte) (body rest : List Byte) (k : Nat) (a : Account),
    Takes s 0x07 number body → takeNumber 1 body = some (k, rest) → k < 128 → s.account? k = some a →
    (∀ e ∈ s.tgm.groups, e.2.config.carrier ≠ k) → (∀ e ∈ s.ctb, e.2.incoming ≠ k) → a.closed.collected = true →
    a.running =
      { payable := 0, receivable := 0, steps := 0, handovers := 0, transits := 0, payableMark := false,
        receivableMark := false } →
    s.chu.accounts.wf = true →
    ∃ t, exec (.delCarrier number body) s = .next t ∧ Served s t 0x07 number [] (0x00 :: a.config.layout) ∧
      t = { s with lif := t.lif, chu := { s.chu with accounts := t.chu.accounts } } ∧
      t.account? k = none ∧ (∀ j, j ≠ k → t.account? j = s.account? j)) ∧
  (∀ (s : State) (number : Byte) (body rest : List Byte) (v length : Nat),
    Takes s 0x0F number body → takeNumber 2 body = some (v, rest) → length = (if 1440 < v then 1440 else v) →
    ∃ t, exec (.setPeriod number body) s = .next t ∧
      Served s t 0x0F number [] (0x00 :: (putNumber 2 s.chu.period.length ++ putNumber 2 length)) ∧
      t = { s with
        lif := t.lif,
        chu := { s.chu with
          period := { s.chu.period with
            length := length,
            timer :=
              if s.chu.period.held then s.chu.period.timer
              else if length = 0 then none else some (s.tmb.now + length * 60000) } } }) ∧
  (∀ (s : State) (number : Byte) (body : List Byte), Takes s 0x06 number body →
    (body.length < 19 → Refused s 0x06 number body [0x02]) ∧
    (∀ k c, readSetCarrier body = some (k, c) → RefusedByFirst s 0x06 number body [(128 ≤ k, [0x03])])) ∧
  (∀ (s : State) (number : Byte) (body : List Byte), Takes s 0x07 number body →
    (body = [] → Refused s 0x07 number body [0x02]) ∧
    (∀ k rest, takeNumber 1 body = some (k, rest) → RefusedByFirst s 0x07 number body
      [(128 ≤ k, [0x03]), (s.account? k = none, [0x05]), (∃ e ∈ s.tgm.groups, e.2.config.carrier = k, [0x06, 0]),
        (∃ e ∈ s.ctb, e.2.incoming = k, [0x06, 1]),
        (∃ a, s.account? k = some a ∧ a.closed.collected = false, [0x06, 2]),
        (∃ a, s.account? k = some a ∧
          (0 < a.running.payable ∨ 0 < a.running.receivable ∨ 0 < a.running.steps ∨ 0 < a.running.handovers ∨
            0 < a.running.transits ∨ a.running.payableMark = true ∨ a.running.receivableMark = true), [0x06, 3])])) ∧
  (∀ (s : State) (number : Byte) (body : List Byte), Takes s 0x0F number body → body.length < 2 →
    Refused s 0x0F number body [0x02])

/-- The close and the hold (R150 to R152, R155): at CLOSE and at the period timer's expiry, the period closes when every closed bank
is collected, and is held otherwise; every running bank becomes the closed bank of its account, uncollected, and is zeroed; the
period number rises; CLOSED or CLOSE_HELD is queued. A CLOSE in a hold changes nothing. Whether a request began the hold is sent as 1
or 0 (the model's reading of R182, log 11). -/
def Obligations.PeriodClosesOrIsHeld : Prop :=
  ∀ (s : State) (clear : Bank) (closed : Table Account) (next held : Period),
    clear = { payable := 0, receivable := 0, steps := 0, handovers := 0, transits := 0, payableMark := false,
              receivableMark := false } →
    closed = s.chu.accounts.map (fun e => (e.1,
      { e.2 with
        running := clear,
        closed :=
          { bank := e.2.running, closedAt := some (s.chu.period.number, s.tmb.clock),
            tariffMark := s.chu.period.tariffMark, collected := false } })) →
    next =
      { number := if s.chu.period.number = 4294967295 then 0 else s.chu.period.number + 1,
        length := s.chu.period.length, held := false, tariffMark := false,
        timer := if s.chu.period.length = 0 then none else some (s.tmb.now + s.chu.period.length * 60000) } →
    held = { s.chu.period with held := true, timer := none } →
    (∀ e, s.chu.period.timer = some e → e ≤ s.tmb.now →
      ((∀ a ∈ s.chu.accounts, a.2.closed.collected = true) →
        exec .periodTimerExpiry s = .next { s with
          lif := s.lif.offer (.closed s.chu.period.number s.tmb.clock s.chu.accounts.length s.chu.period.tariffMark .timer),
          chu := { s.chu with accounts := closed, period := next } }) ∧
      ((∃ a ∈ s.chu.accounts, a.2.closed.collected = false) →
        exec .periodTimerExpiry s = .next { s with
          lif := s.lif.offer (.closeHeld s.chu.period.number
            (s.chu.accounts.filter (fun a => decide (a.2.closed.collected = false))).length .timer),
          chu := { s.chu with period := held } })) ∧
    (∀ number body, Takes s 0x4A number body →
      (s.chu.period.held = false → (∀ a ∈ s.chu.accounts, a.2.closed.collected = true) →
        ∃ t, exec (.close number body) s = .next t ∧
          Served s t 0x4A number
            [.closed s.chu.period.number s.tmb.clock s.chu.accounts.length s.chu.period.tariffMark .request]
            (0x00 :: (putNumber 4 s.chu.period.number ++ putNumber 4 s.tmb.clock ++
              putNumber 1 s.chu.accounts.length)) ∧
          t = { s with lif := t.lif, chu := { s.chu with accounts := closed, period := next } }) ∧
      (∀ n, n = (s.chu.accounts.filter (fun a => decide (a.2.closed.collected = false))).length →
        (s.chu.period.held = false → (∃ a ∈ s.chu.accounts, a.2.closed.collected = false) →
          ∃ t, exec (.close number body) s = .next t ∧
            Served s t 0x4A number [.closeHeld s.chu.period.number n .request]
              (0x0D :: (putNumber 4 s.chu.period.number ++ putNumber 1 n ++ [1])) ∧
            t = { s with lif := t.lif, chu := { s.chu with period := held } }) ∧
        (s.chu.period.held = true →
          ∃ t, exec (.close number body) s = .next t ∧
            Served s t 0x4A number [] (0x0D :: (putNumber 4 s.chu.period.number ++ putNumber 1 n ++ [0])) ∧
            t = { s with lif := t.lif })))

/-- COLLECT (R153, R154): a body too short, an index out of range and an account that is not configured are refused in
that order; a closed bank not collected is returned and marked; the last one of a hold releases the held close in the same step, and
the reply says so; a bank collected before is returned and changes nothing. The closed-bank record is laid out as R182 gives it. -/
def Obligations.CollectReturnsClosedBank : Prop :=
  (∀ (s marked : State) (number : Byte) (body rest : List Byte) (k : Nat) (a : Account),
    Takes s 0x49 number body → takeNumber 1 body = some (k, rest) → k < 128 → s.account? k = some a →
    marked = { s with
      chu := { s.chu with accounts := s.chu.accounts.put k { a with closed := { a.closed with collected := true } } } } →
    (a.closed.collected = true →
      ∃ t, exec (.collect number body) s = .next t ∧
        Served s t 0x49 number [] (0x00 :: (a.closed.layout k true ++ [0])) ∧ t = { s with lif := t.lif }) ∧
    (a.closed.collected = false →
      (s.chu.period.held = false ∨ (∃ b ∈ marked.chu.accounts, b.2.closed.collected = false) →
        ∃ t, exec (.collect number body) s = .next t ∧
          Served s t 0x49 number [] (0x00 :: (a.closed.layout k false ++ [0])) ∧ t = { marked with lif := t.lif }) ∧
      (s.chu.period.held = true → (∀ b ∈ marked.chu.accounts, b.2.closed.collected = true) →
        ∃ t, exec (.collect number body) s = .next t ∧
          Served s t 0x49 number
            [.closed s.chu.period.number s.tmb.clock marked.chu.accounts.length s.chu.period.tariffMark .release]
            (0x00 :: (a.closed.layout k false ++ 1 :: putNumber 4 s.chu.period.number)) ∧
          t = { s with
            lif := t.lif,
            chu := { s.chu with
              accounts := marked.chu.accounts.map (fun e => (e.1, e.2.closedNow s.chu.period s.tmb.clock)),
              period := s.chu.period.next s.tmb.now } }))) ∧
  (∀ (s : State) (number : Byte) (body : List Byte), Takes s 0x49 number body →
    (body = [] → Refused s 0x49 number body [0x02]) ∧
    (∀ k rest, takeNumber 1 body = some (k, rest) → RefusedByFirst s 0x49 number body
      [(128 ≤ k, [0x03]), (s.account? k = none, [0x05])])) ∧
  (∀ (k period time : Nat) (before : Bool) (c : ClosedBank),
    ((c.closedAt = none ∧ period = 0 ∧ time = 0) ∨ c.closedAt = some (period, time)) →
    ∃ flags : Byte,
      c.layout k before = putNumber 1 k ++ flags :: (putNumber 4 period ++ putNumber 4 time ++ putNumber 5 c.bank.payable ++
        putNumber 5 c.bank.receivable ++ putNumber 4 c.bank.steps ++ putNumber 4 c.bank.handovers ++
        putNumber 4 c.bank.transits) ∧
      flags.getLsbD 0 = c.collected ∧ flags.getLsbD 1 = before ∧ flags.getLsbD 2 = c.bank.payableMark ∧
      flags.getLsbD 3 = c.bank.receivableMark ∧ flags.getLsbD 4 = c.tariffMark ∧ flags.getLsbD 5 = c.closedAt.isSome ∧
      flags.getLsbD 6 = false ∧ flags.getLsbD 7 = false)

/-! ### Tariffs and the part clock -/

/-- LOAD_TARIFF and SCHEDULE_TARIFF (R160, R161, R165): the checks refuse in the order of the rule, the first condition that holds deciding,
SCHEDULE_TARIFF with the reason CLASS or PENDING; a first load gives active values, a later one a
pending set, both clamped; a schedule ahead of the clock is stored, and one at or before it activates the class within the request.
The two forms of the reply of SCHEDULE_TARIFF, the byte 0 of ACTIVATED and the reasons 0 and 1 are the model's reading (log 14). -/
def Obligations.TariffLoadedAndScheduled : Prop :=
  (∀ (s : State) (number : Byte) (body : List Byte) (c : Nat) (v stored : TariffValues),
    Takes s 0x08 number body → readLoadTariff body = some (c, v) → c < 64 →
    (∀ t, s.tariff? c = some t → t.schedule = none) →
    stored = { v with interval := min 4095 v.interval, fine := min 15 v.fine } →
    ∃ t, exec (.loadTariff number body) s = .next t ∧
      Served s t 0x08 number []
        (0x00 :: (putOptional TariffValues.layout ((s.tariff? c).bind (·.pendingSet)) ++ stored.layout ++
          putNumber 3 ((stored.interval + 1) * 16 + stored.fine))) ∧
      t = { s with lif := t.lif, chu := { s.chu with tariffs := t.chu.tariffs } } ∧
      (s.tariff? c = none → t.tariff? c = some { active := stored, pendingSet := none, schedule := none }) ∧
      (∀ old, s.tariff? c = some old → t.tariff? c = some { old with pendingSet := some stored }) ∧
      (∀ d, d ≠ c → t.tariff? d = s.tariff? d)) ∧
  (∀ (s : State) (number : Byte) (body : List Byte) (c time : Nat) (old : TariffClass) (v : TariffValues),
    Takes s 0x09 number body → readScheduleTariff body = some (c, time) → c < 64 → s.tariff? c = some old →
    old.pendingSet = some v →
    (s.tmb.clock < time → ∃ t, exec (.scheduleTariff number body) s = .next t ∧
      Served s t 0x09 number []
        (0x00 :: (putOptional (putNumber 4) old.schedule ++ putNumber 4 time ++ putNumber 4 (time - s.tmb.clock))) ∧
      t = { s with
        lif := t.lif, chu := { s.chu with tariffs := s.chu.tariffs.put c { old with schedule := some time } } }) ∧
    (time ≤ s.tmb.clock → ∃ t, exec (.scheduleTariff number body) s = .next t ∧
      Served s t 0x09 number [.tariffOn c v s.tmb.clock .request]
        (0x00 :: (putOptional (putNumber 4) old.schedule ++ [0] ++ v.layout)) ∧
      t = { s with
        lif := t.lif,
        chu := { s.chu with
          tariffs := s.chu.tariffs.put c { active := v, pendingSet := none, schedule := none },
          period := { s.chu.period with tariffMark := true } } })) ∧
  (∀ (s : State) (number : Byte) (body : List Byte), Takes s 0x08 number body →
    (body.length < 8 → Refused s 0x08 number body [0x02]) ∧
    (∀ c v, readLoadTariff body = some (c, v) → RefusedByFirst s 0x08 number body
      [(64 ≤ c, [0x03]), (∃ t, s.tariff? c = some t ∧ t.schedule.isSome = true, [0x0C])])) ∧
  (∀ (s : State) (number : Byte) (body : List Byte), Takes s 0x09 number body →
    (body.length < 5 → Refused s 0x09 number body [0x02]) ∧
    (∀ c time, readScheduleTariff body = some (c, time) → RefusedByFirst s 0x09 number body
      [(64 ≤ c, [0x03]), (s.tariff? c = none, [0x05, 0]),
        (∃ t, s.tariff? c = some t ∧ t.pendingSet = none, [0x05, 1])]))

/-- CANCEL_TARIFF (R162): BAD_LENGTH, BAD_INDEX and NOT_CONFIGURED in that order; otherwise the schedule is removed, the pending set
is kept, and the reply carries the schedule removed or the absent marker; with none held nothing changes. -/
def Obligations.CancelTariffRemovesSchedule : Prop :=
  ∀ (s : State) (number : Byte) (body : List Byte), Takes s 0x0A number body → ∃ t,
    exec (.cancelTariff number body) s = .next t ∧
    (body = [] → Served s t 0x0A number [] [0x02] ∧ t = { s with lif := t.lif }) ∧
    (∀ b rest, body = b :: rest →
      (64 ≤ b.toNat → Served s t 0x0A number [] [0x03] ∧ t = { s with lif := t.lif }) ∧
      (b.toNat < 64 → s.tariff? b.toNat = none → Served s t 0x0A number [] [0x05] ∧ t = { s with lif := t.lif }) ∧
      (∀ old, b.toNat < 64 → s.tariff? b.toNat = some old →
        Served s t 0x0A number [] (0x00 :: putOptional (putNumber 4) old.schedule) ∧
        t = { s with lif := t.lif, chu := { s.chu with tariffs := t.chu.tariffs } } ∧
        (∀ d, t.tariff? d = if d = b.toNat then some { old with schedule := none } else s.tariff? d)))

/-- SET_CLOCK and the rise of the part clock (R164, R165): a body too short is BAD_LENGTH; the clock takes its new
value, its count starts afresh, and every class whose schedule it reaches, one at or before it, is activated in rising class index,
each with its TARIFF_ON;
at its largest value the clock holds, and its count starts afresh (the model's reading of R164, log 32). -/
def Obligations.ClockMovesAndActivates : Prop :=
  (∀ (s : State) (number : Byte) (body rest : List Byte) (v : Nat),
    Takes s 0x0E number body → takeNumber 4 body = some (v, rest) → Canonical s → SchedulesAhead s →
    ∃ t, exec (.setClock number body) s = .next t ∧
      Served s t 0x0E number
        ((s.chu.tariffs.filter (fun e => e.2.reached v)).map
          (fun e => .tariffOn e.1 (e.2.pendingSet.getD e.2.active) v .setClock))
        (0x00 :: (putNumber 4 s.tmb.clock ++ putNumber 4 v ++
          putNumber 1 (s.chu.tariffs.filter (fun e => e.2.reached v)).length)) ∧
      t = { s with
        lif := t.lif, tmb := { s.tmb with clock := v, clockCount := 0 },
        chu := { s.chu with
          tariffs := s.chu.tariffs.map (fun e => (e.1,
            if e.2.reached v then { active := e.2.pendingSet.getD e.2.active, pendingSet := none, schedule := none }
            else e.2)),
          period := { s.chu.period with
            tariffMark := s.chu.period.tariffMark || s.chu.tariffs.any (fun e => e.2.reached v) } } }) ∧
  (∀ s : State, s.lif.phase = .running → 1000 ≤ s.tmb.clockCount → s.tmb.clock < 4294967295 →
    Canonical s → SchedulesAhead s →
    exec .partClockRise s = .next { s with
      lif := ((s.chu.tariffs.filter (fun e => e.2.reached (s.tmb.clock + 1))).map
        (fun e => .tariffOn e.1 (e.2.pendingSet.getD e.2.active) (s.tmb.clock + 1) .clock)).foldl Lif.offer s.lif,
      tmb := { s.tmb with clock := s.tmb.clock + 1, clockCount := 0 },
      chu := { s.chu with
        tariffs := s.chu.tariffs.map (fun e => (e.1,
          if e.2.reached (s.tmb.clock + 1) then
            { active := e.2.pendingSet.getD e.2.active, pendingSet := none, schedule := none }
          else e.2)),
        period := { s.chu.period with
          tariffMark := s.chu.period.tariffMark || s.chu.tariffs.any (fun e => e.2.reached (s.tmb.clock + 1)) } } }) ∧
  (∀ s : State, s.lif.phase = .running → 1000 ≤ s.tmb.clockCount → s.tmb.clock = 4294967295 →
    exec .partClockRise s = .next { s with tmb := { s.tmb with clockCount := 0 } }) ∧
  (∀ (s : State) (number : Byte) (body : List Byte), Takes s 0x0E number body → body.length < 4 →
    Refused s 0x0E number body [0x02]) ∧
  (∀ (t : TariffClass) (clock : Nat), t.reached clock = true ↔ ∃ time, t.schedule = some time ∧ time ≤ clock)

/-! ### The reading requests -/

/-- The readings of records by index (R11, R24, R48, R93, R148, R163) reply OK with the record as it stands;
READ_PREFIX (R5) replies with the count of entries and the entry its form asks for, READ_GAPS (R116) with the counts, the interval, up
to 16 entries from a slot on and the slot that follows. None of them changes anything. Each is refused by the first check of its rule
that fails: BAD_LENGTH, BAD_INDEX or for READ_CALL and READ_PREFIX BAD_VALUE, and the record not there; every refusal of READ_PREFIX
carries the count. The codes of the enumerations and the contents of each record are spelled out byte by byte, but for the closed
bank, which CollectReturnsClosedBank spells out; a time remaining is 0xFFFFFFFF when its timer is stopped (R182). The model's
readings of the layouts: READ_PREFIX log 12, READ_GROUP log 13, READ_CALL log 16 and the tag of its UNKNOWN_CALL log 18, gap contents
log 17, a lone flag log 11, the padding of digits log 35, one presence byte for READ_TARIFF's schedule with its seconds remaining
log 36, and BAD_LENGTH first log 9. -/
def Obligations.RecordAndTableReadings : Prop :=
  (∀ (s : State) (number : Byte) (body rest : List Byte) (i : Nat),
     (∀ p, Takes s 0x42 number body → takeNumber 2 body = some (i, rest) → i < 1024 → s.plan? i = some p →
       ∃ t, exec (.readPlan number body) s = .next t ∧ Served s t 0x42 number [] (0x00 :: p.layout) ∧
         t = { s with lif := t.lif }) ∧
     (∀ grp, Takes s 0x43 number body → takeNumber 2 body = some (i, rest) → i < 512 → s.group? i = some grp →
       ∃ t, exec (.readGroup number body) s = .next t ∧
         Served s t 0x43 number []
           (0x00 :: (grp.config.layout ++ grp.runningLayout ++
             (putNumber 2 (s.countCircuits i CircuitState.isIdle) ++ putNumber 2 (s.countCircuits i CircuitState.isGuard) ++
               putNumber 2 (s.countCircuits i CircuitState.isBusy) ++
               putNumber 2 (s.countCircuits i CircuitState.isBlocked) ++ putNumber 2 (s.pendingBlocks i)) ++
             grp.timersLayout s.tmb.now ++ putOptional LastWindow.layout grp.lastWindow)) ∧
         t = { s with lif := t.lif }) ∧
     (∀ call, Takes s 0x45 number body → takeNumber 4 body = some (i, rest) → i ≠ 0 → s.call? i = some call →
       ∃ t, exec (.readCall number body) s = .next t ∧ Served s t 0x45 number [] (0x00 :: call.layout i s.tmb.now) ∧
         t = { s with lif := t.lif }) ∧
     (∀ a, Takes s 0x46 number body → takeNumber 1 body = some (i, rest) → i < 128 → s.account? i = some a →
       ∃ t, exec (.readCarrier number body) s = .next t ∧
         Served s t 0x46 number []
           (0x00 :: (a.config.layout ++ a.running.layout ++ a.closed.layout i false ++
             putNumber 1 (a.config.tier a.running.steps) ++
             putNumber 2 (s.tgm.groups.filter (fun e => decide (e.2.config.carrier = i))).length ++
             putNumber 2 (s.ctb.filter (fun e => decide (e.2.incoming = i))).length)) ∧
         t = { s with lif := t.lif }) ∧
     (∀ c, Takes s 0x47 number body → takeNumber 1 body = some (i, rest) → i < 64 → s.tariff? i = some c →
       ∃ t, exec (.readTariff number body) s = .next t ∧
         Served s t 0x47 number []
           (0x00 :: (c.active.layout ++ putNumber 3 ((c.active.interval + 1) * 16 + c.active.fine) ++
             putOptional (fun v => v.layout ++ putNumber 3 ((v.interval + 1) * 16 + v.fine)) c.pendingSet ++
             putOptional (fun at_ => putNumber 4 at_ ++ putNumber 4 (at_ - s.tmb.clock)) c.schedule ++
             putNumber 4 s.tmb.clock ++
             putNumber 2 (s.tgm.groups.filter (fun e => decide (e.2.config.tariffClass = i))).length)) ∧
         t = { s with lif := t.lif })) ∧
  (∀ (s : State) (number : Byte) (body : List Byte) (form : Nat) (ds : Digits) (e : PrefixEntry),
    Takes s 0x41 number body → readReadPrefix body = some (form, ds) → (∀ d ∈ ds, d ≤ 9) →
    ((form = 0 ∧ 1 ≤ ds.length ∧ ds.length ≤ 12 ∧ findEntry ds s.rsl.prefixes = some e) ∨
      (form = 1 ∧ 1 ≤ ds.length ∧ ds.length ≤ 16 ∧ longestMatch ds s.rsl.prefixes = some e) ∨
      (form = 2 ∧ ds.length ≤ 12 ∧ nextEntry ds s.rsl.prefixes = some e)) →
    ∃ t, exec (.readPrefix number body) s = .next t ∧
      Served s t 0x41 number []
        (0x00 :: (putNumber 2 s.rsl.prefixes.length ++ putDigits e.digits ++ putNumber 2 e.plan ++
          putOptional (putNumber 2) e.note)) ∧
      t = { s with lif := t.lif }) ∧
  (∀ (s : State) (number : Byte) (body rest : List Byte) (first : Nat) (from_ : Table Gap),
    Takes s 0x48 number body → takeNumber 1 body = some (first, rest) → first < 64 →
    from_ = s.gpc.gaps.filter (fun e => decide (first ≤ e.1)) →
    ∃ t, exec (.readGaps number body) s = .next t ∧
      Served s t 0x48 number []
        (0x00 :: (putNumber 1 s.gpc.gaps.length ++
          putNumber 1 (s.gpc.gaps.filter (fun e => decide (e.2.origin = .auto))).length ++
          putNumber 2 s.gpc.autoInterval ++
          (BitVec.ofNat 8 (from_.take 16).length ::
            (from_.take 16).flatMap (fun e => putNumber 1 e.1 ++ e.2.layout s.tmb.now)) ++
          putNumber 1
            (if from_.length ≤ 16 then 0xFF else ((from_.take 16).getLast?.map (fun e => e.1 + 1)).getD 0xFF))) ∧
      t = { s with lif := t.lif }) ∧
  (∀ (s : State) (number : Byte) (body rest : List Byte) (i : Nat),
    (Takes s 0x42 number body → takeNumber 2 body = some (i, rest) →
      RefusedByFirst s 0x42 number body [(1024 ≤ i, [0x03]), (s.plan? i = none, [0x05])]) ∧
    (Takes s 0x43 number body → takeNumber 2 body = some (i, rest) →
      RefusedByFirst s 0x43 number body [(512 ≤ i, [0x03]), (s.group? i = none, [0x05])]) ∧
    (Takes s 0x45 number body → takeNumber 4 body = some (i, rest) →
      RefusedByFirst s 0x45 number body [(i = 0, [0x04]), (s.call? i = none, 0x0A :: putNumber 4 i)]) ∧
    (Takes s 0x46 number body → takeNumber 1 body = some (i, rest) →
      RefusedByFirst s 0x46 number body [(128 ≤ i, [0x03]), (s.account? i = none, [0x05])]) ∧
    (Takes s 0x47 number body → takeNumber 1 body = some (i, rest) →
      RefusedByFirst s 0x47 number body [(64 ≤ i, [0x03]), (s.tariff? i = none, [0x05])]) ∧
    (Takes s 0x48 number body → takeNumber 1 body = some (i, rest) →
      RefusedByFirst s 0x48 number body [(64 ≤ i, [0x03])])) ∧
  (∀ (s : State) (kind number : Byte) (body : List Byte), Takes s kind number body →
    ((kind = 0x42 ∨ kind = 0x43) ∧ body.length < 2) ∨ (kind = 0x45 ∧ body.length < 4) ∨
      ((kind = 0x46 ∨ kind = 0x47 ∨ kind = 0x48) ∧ body = []) → Refused s kind number body [0x02]) ∧
  (∀ (s : State) (number : Byte) (body count : List Byte), Takes s 0x41 number body →
    count = putNumber 2 s.rsl.prefixes.length →
    (body.length < 1 + digitsSize body 1 → Refused s 0x41 number body (0x02 :: count)) ∧
    (∀ form ds, readReadPrefix body = some (form, ds) → RefusedByFirst s 0x41 number body
      [(2 < form ∨ (form = 0 ∧ BadDigits 1 12 ds) ∨ (form = 1 ∧ BadDigits 1 16 ds) ∨ (form = 2 ∧ BadDigits 0 12 ds),
          0x04 :: count),
        ((form = 0 ∧ findEntry ds s.rsl.prefixes = none) ∨ (form = 1 ∧ longestMatch ds s.rsl.prefixes = none) ∨
          (form = 2 ∧ nextEntry ds s.rsl.prefixes = none), 0x05 :: count)])) ∧
  (∀ (now : Nat) (t : Machine.Timer), putRemaining now t =
    match t with
    | none => [0xFF, 0xFF, 0xFF, 0xFF]
    | some e => putNumber 4 (e - now)) ∧
  ((∀ m : PlanMode, m.code = match m with | .fixed => 0 | .sticky => 1) ∧
    (∀ h : HuntOrder, h.code = match h with | .ascending => 0 | .descending => 1 | .rotating => 2) ∧
    (∀ v : ServiceState, v.code =
      match v with
      | .inService => 0 | .outOfService => 1 | .suspended => 2 | .reopenFirst => 3 | .reopenQuiet => 4 | .reopenSecond => 5) ∧
    (∀ c : CallClass, c.code = match c with | .ordinary => 0 | .priority => 1 | .onward => 2) ∧
    (∀ c : CallState, c.code = match c with | .seizing => 0 | .alerting => 1 | .answered => 2) ∧
    (∀ o : GapOrigin, o.code = match o with | .manual => 0 | .auto => 1)) ∧
  (∀ p : Plan, p.layout =
    putNumber 1 p.choices.length ++ p.choices.flatMap (putNumber 2) ++
      [p.mode.code] ++ putOptional (putNumber 1) p.stickyPosition ++
      putOptional (putNumber 3) p.ceiling ++ putNumber 1 p.crankbackLimit) ∧
  (∀ e : PrefixEntry, e.layout = putNumber 2 e.plan ++ putOptional (putNumber 2) e.note) ∧
  (∀ c : GroupConfig, c.layout =
    putNumber 1 c.carrier ++ putNumber 1 c.tariffClass ++ putNumber 2 c.firstCircuit ++ putNumber 2 c.circuitCount ++
      [c.hunt.code] ++ putNumber 1 c.reservation ++
      putNumber 2 c.i1 ++ putNumber 2 c.i2 ++ putNumber 2 c.i3 ++ putNumber 1 c.hysteresis ++ putNumber 2 c.windowLength ++
      putNumber 1 c.m0 ++ putNumber 1 c.m1 ++ putNumber 1 c.m2 ++ putNumber 1 c.m3 ++ putNumber 2 c.seizureTime ++
      putNumber 2 c.guardTime ++ putNumber 1 c.suspensionCount ++ putNumber 2 c.ts ++ putNumber 1 c.tq ++ putNumber 2 c.tw ++
      putNumber 2 c.te ++ putNumber 1 c.deleteCount ++ putDigits c.insertDigits) ∧
  (∀ (grp : Group) (now : Nat),
    grp.runningLayout =
      [grp.service.code] ++ putNumber 1 grp.level ++ putNumber 2 grp.idleCount ++ putNumber 1 grp.faultCount ++
        putOptional (putNumber 4) grp.probe ++ putNumber 2 grp.rotatePosition ++
        (putNumber 4 grp.window.seizures ++ putNumber 4 grp.window.overflows ++ putNumber 4 grp.window.answers ++
          putNumber 2 grp.window.minIdle ++ putNumber 2 grp.window.maxBusy) ∧
    grp.timersLayout now =
      putRemaining now grp.windowTimer ++ putRemaining now grp.escalationTimer ++ putRemaining now grp.tsTimer ++
        putRemaining now grp.tqTimer ++ putRemaining now grp.twTimer) ∧
  (∀ w : LastWindow, w.layout =
    putNumber 4 w.counters.seizures ++ putNumber 4 w.counters.overflows ++ putNumber 4 w.counters.answers ++
      putNumber 2 w.counters.minIdle ++ putNumber 2 w.counters.maxBusy ++ putNumber 4 w.endTime) ∧
  (∀ (c : Call) (tag now : Nat), c.layout tag now =
    putNumber 4 tag ++ putDigits c.number ++ putNumber 2 c.circuit ++ putNumber 2 c.group ++ putNumber 2 c.plan ++
      putNumber 1 c.position ++ [c.callClass.code] ++
      putNumber 1 c.incoming ++ putNumber 1 c.attempts ++
      [c.state.code] ++ putNumber 1 c.multiplier ++
      putNumber 1 c.tariffClass ++ [(if c.probe then 1 else 0 : Byte)] ++ putNumber 4 c.grantTime ++
      putOptional (putNumber 4) c.answerTime ++ putNumber 4 c.steps ++ putNumber 5 c.payable ++ putNumber 5 c.receivable ++
      (match c.supervision, c.chargeStep with
       | some e, _ => putNumber 4 (e - now) ++ [1, 0]
       | none, some e => putNumber 4 (e - now) ++ [1, 1]
       | none, none => [0xFF, 0xFF, 0xFF, 0xFF, 0])) ∧
  (∀ a : AccountConfig, a.layout =
    putNumber 2 a.margin ++ putNumber 4 a.b1 ++ putNumber 4 a.b2 ++ putNumber 4 a.b3 ++ putNumber 1 a.t0 ++
      putNumber 1 a.t1 ++ putNumber 1 a.t2 ++ putNumber 1 a.t3) ∧
  (∀ b : Bank, b.layout =
    putNumber 5 b.payable ++ putNumber 5 b.receivable ++ putNumber 4 b.steps ++ putNumber 4 b.handovers ++
      putNumber 4 b.transits ++ [if b.payableMark then 1 else 0, if b.receivableMark then 1 else 0]) ∧
  (∀ v : TariffValues, v.layout =
    putNumber 2 v.setup ++ putNumber 2 v.price ++ putNumber 2 v.interval ++ putNumber 1 v.fine) ∧
  (∀ (g : Gap) (now : Nat), g.layout now =
    (match g.key with | .digits ds => 0 :: putDigits ds | .plan p => 1 :: putNumber 2 p) ++
      [g.origin.code] ++ putNumber 2 g.interval ++ putNumber 4 (g.nextAdmit - now) ++
      putRemaining now g.expiry ++ putNumber 4 g.admitted ++ putNumber 4 g.refused)

/-- READ_CIRCUIT (R33): a body too short is BAD_LENGTH and an index above 16,383 is BAD_INDEX; for every other the
reply is OK and carries the owner or none, the state, block-pending (1 when it is set, the model's reading of R182, log 11), the tag or
absent, and in GUARD the time remaining; nothing changes. -/
def Obligations.ReadCircuitReturnsRecord : Prop :=
  (∀ (s : State) (number : Byte) (body : List Byte), Takes s 0x44 number body → body.length < 2 →
    Refused s 0x44 number body [0x02]) ∧
  (∀ (s : State) (number : Byte) (body rest : List Byte) (i : Nat),
    Takes s 0x44 number body → takeNumber 2 body = some (i, rest) →
    ∃ t, exec (.readCircuit number body) s = .next t ∧ t = { s with lif := t.lif } ∧
      (16384 ≤ i → Served s t 0x44 number [] [0x03]) ∧
      (i < 16384 → s.circuit? i = none → Served s t 0x44 number [] [0x00, 0, 0, 0, 0, 0]) ∧
      (∀ c, i < 16384 → s.circuit? i = some c →
        Served s t 0x44 number []
          (0x00 :: 1 :: (putNumber 2 c.owner ++
            (match c.state with
             | .idle => [0, if c.blockPending then 1 else 0, 0, 0]
             | .guarding e => 1 :: (if c.blockPending then 1 else 0) :: 0 :: 1 :: putNumber 4 (e - s.tmb.now)
             | .busy tag => 2 :: (if c.blockPending then 1 else 0) :: 1 :: (putNumber 4 tag ++ [0])
             | .blocked => [3, if c.blockPending then 1 else 0, 0, 0])))))

/-! ### Layouts -/

/-- The fields of R182: a number most significant byte first, a digit string as its count and its digits two to a byte, a field that may
be absent behind its presence byte, a list behind its count; the padding of an odd digit string is 0, the model's choice (log 35). A
request body laid out by R182 from its fields, in the order of the owning rule, is read back as those fields, whatever bytes follow:
SET_PREFIX, SET_PLAN, SET_GROUP, SET_CARRIER, LOAD_TARIFF, SCHEDULE_TARIFF, SET_GAP in its four forms (a digit string or a
plan, with a duration or without), SEEK, FAIL and SERVICE. -/
def Obligations.RequestBodiesReadBack : Prop :=
  (∀ n v : Nat, putNumber 0 v = [] ∧ putNumber (n + 1) v = putNumber n (v / 256) ++ [BitVec.ofNat 8 v]) ∧
  (∀ (a b : Nat) (ds : Digits), packDigits [] = [] ∧ packDigits [a] = [BitVec.ofNat 8 (a * 16)] ∧
    packDigits (a :: b :: ds) = BitVec.ofNat 8 (a * 16 + b) :: packDigits ds ∧
    putDigits ds = putNumber 1 ds.length ++ packDigits ds) ∧
  (∀ (lay : Nat → List Byte) (v : Nat) (l : List Nat), putOptional lay none = [0] ∧ putOptional lay (some v) = 1 :: lay v ∧
    putList lay l = putNumber 1 l.length ++ l.flatMap lay) ∧
  ∀ rest : List Byte,
    (∀ (ds : Digits) (plan : Nat) (note : Option Nat), ds.length ≤ 255 → (∀ d ∈ ds, d ≤ 9) → plan < 65536 →
      (∀ n, note = some n → n < 65536) →
      readSetPrefix (putDigits ds ++ putNumber 2 plan ++ putOptional (putNumber 2) note ++ rest) =
        some (ds, plan, note)) ∧
    (∀ f : PlanFields, f.index < 65536 → f.choices.length ≤ 255 → (∀ g ∈ f.choices, g < 65536) → f.mode < 256 →
      (∀ c, f.ceiling = some c → c < 16777216) → f.limit < 256 →
      readSetPlan (putNumber 2 f.index ++ putList (putNumber 2) f.choices ++ putNumber 1 f.mode ++
        putOptional (putNumber 3) f.ceiling ++ putNumber 1 f.limit ++ rest) = some f) ∧
    (∀ (index : Nat) (c : GroupConfig), index < 65536 → c.carrier < 256 → c.tariffClass < 256 →
      c.firstCircuit < 65536 → c.circuitCount < 65536 → c.reservation < 256 → c.i1 < 65536 → c.i2 < 65536 →
      c.i3 < 65536 → c.hysteresis < 256 → c.windowLength < 65536 → c.m0 < 256 → c.m1 < 256 → c.m2 < 256 →
      c.m3 < 256 → c.seizureTime < 65536 → c.guardTime < 65536 → c.suspensionCount < 256 → c.ts < 65536 →
      c.tq < 256 → c.tw < 65536 → c.te < 65536 → c.deleteCount < 256 → c.insertDigits.length ≤ 255 →
      (∀ d ∈ c.insertDigits, d ≤ 9) →
      ∃ hunt, readSetGroup (putNumber 2 index ++ c.layout ++ rest) =
          some { index := index, huntByte := hunt, config := c } ∧
        (hunt = 0 ↔ c.hunt = .ascending) ∧ (hunt = 1 ↔ c.hunt = .descending) ∧ (hunt = 2 ↔ c.hunt = .rotating)) ∧
    (∀ (k : Nat) (c : AccountConfig), k < 256 → c.margin < 65536 → c.b1 < 4294967296 → c.b2 < 4294967296 →
      c.b3 < 4294967296 → c.t0 < 256 → c.t1 < 256 → c.t2 < 256 → c.t3 < 256 →
      readSetCarrier (putNumber 1 k ++ c.layout ++ rest) = some (k, c)) ∧
    (∀ (c : Nat) (v : TariffValues), c < 256 → v.setup < 65536 → v.price < 65536 → v.interval < 65536 → v.fine < 256 →
      readLoadTariff (putNumber 1 c ++ v.layout ++ rest) = some (c, v)) ∧
    (∀ c time : Nat, c < 256 → time < 4294967296 →
      readScheduleTariff (putNumber 1 c ++ putNumber 4 time ++ rest) = some (c, time)) ∧
    (∀ (ds : Digits) (interval : Nat), ds.length ≤ 255 → (∀ d ∈ ds, d ≤ 9) → interval < 65536 →
      readSetGap (0 :: (putDigits ds ++ putNumber 2 interval ++ [0] ++ rest)) =
        some { key := .digits ds, interval := interval, flag := 0, duration := none }) ∧
    (∀ (ds : Digits) (interval d : Nat), ds.length ≤ 255 → (∀ d ∈ ds, d ≤ 9) → interval < 65536 → d < 16777216 →
      readSetGap (0 :: (putDigits ds ++ putNumber 2 interval ++ [1] ++ putNumber 3 d ++ rest)) =
        some { key := .digits ds, interval := interval, flag := 1, duration := some d }) ∧
    (∀ p interval : Nat, p < 65536 → interval < 65536 →
      readSetGap (1 :: (putNumber 2 p ++ putNumber 2 interval ++ [0] ++ rest)) =
        some { key := .plan p, interval := interval, flag := 0, duration := none }) ∧
    (∀ p interval d : Nat, p < 65536 → interval < 65536 → d < 16777216 →
      readSetGap (1 :: (putNumber 2 p ++ putNumber 2 interval ++ [1] ++ putNumber 3 d ++ rest)) =
        some { key := .plan p, interval := interval, flag := 1, duration := some d }) ∧
    (∀ f : SeekFields, f.tag < 4294967296 → f.number.length ≤ 255 → (∀ d ∈ f.number, d ≤ 9) → f.classByte < 256 →
      f.incoming < 256 →
      readSeek (putNumber 4 f.tag ++ putDigits f.number ++ putNumber 1 f.classByte ++ putNumber 1 f.incoming ++ rest) =
        some f) ∧
    (∀ tag cause flag : Nat, tag < 4294967296 → cause < 256 → flag < 256 →
      readFail (putNumber 4 tag ++ putNumber 1 cause ++ putNumber 1 flag ++ rest) = some (tag, cause, flag)) ∧
    (∀ g target : Nat, g < 65536 → target < 256 →
      readService (putNumber 2 g ++ putNumber 1 target ++ rest) = some (g, target))

/-! ### The laws of the part -/

/-- Every step keeps the queues within their capacities, with at most one STRAIN for a group (R171, R172, R174). -/
def Obligations.StepKeepsQueueLaws : Prop :=
  ∀ s t : State, step s = .next t →
    (QueuesBounded s → QueuesBounded t) ∧ (OneStrainPerGroup s → OneStrainPerGroup t)

/-- Every step keeps the strain law: no configured group's level is below f of its idle count (R39). The idle counts are those of the
laws between the records (R18), which every step keeps too. -/
def Obligations.StepKeepsStrainLaw : Prop :=
  ∀ s t : State, StrainLaw s → RecordLaws s → step s = .next t → StrainLaw t

/-- Every step keeps the ranges of the accumulators and totals (R139, R140), the law of the period's hold (R149, R152), and the law
of the gap table's entries (R112, R118). -/
def Obligations.StepKeepsValueLaws : Prop :=
  ∀ s t : State, step s = .next t →
    (TotalsInRange s → TotalsInRange t) ∧ (PeriodLaw s → PeriodLaw t) ∧ (GapLaw s → GapLaw t)

/-- Every step keeps the tables canonical, and every schedule ahead of the part clock (R1, R77, R112, R159, R164). -/
def Obligations.StepKeepsTablesAndSchedules : Prop :=
  ∀ s t : State, Canonical s → step s = .next t → Canonical t ∧ (SchedulesAhead s → SchedulesAhead t)

/-- Every step keeps the laws between the records: each live call and its BUSY circuit name each other, a group's idle count is the
number of its IDLE circuits, every reference is to a configured record, and a probe and its group name each other (R16, R17, R18,
R25, R77, R78, R102, R126). -/
def Obligations.StepKeepsRecordLaws : Prop := ∀ s t : State, RecordLaws s → step s = .next t → RecordLaws t

/-- While the laws between the records hold, the part never stops: every step answers a next state, whatever command is given, and the
model's one fault is not reached (log 23). -/
def Obligations.PartNeverStops : Prop := ∀ s : State, RecordLaws s → ∃ t, step s = .next t

end
end

