-- ==== Sys2Proof/Laws/State.lean ====
section
/-! SUPPORT. What each update of the state does to each of its fields, once, so that no proof unfolds a record update. -/

namespace Sys2Proof.Machine.State

@[simp] theorem withLif_lif (s : State) (f : Lif → Lif) : (s.withLif f).lif = f s.lif := rfl
@[simp] theorem withLif_rsl (s : State) (f : Lif → Lif) : (s.withLif f).rsl = s.rsl := rfl
@[simp] theorem withLif_tgm (s : State) (f : Lif → Lif) : (s.withLif f).tgm = s.tgm := rfl
@[simp] theorem withLif_ctb (s : State) (f : Lif → Lif) : (s.withLif f).ctb = s.ctb := rfl
@[simp] theorem withLif_chu (s : State) (f : Lif → Lif) : (s.withLif f).chu = s.chu := rfl
@[simp] theorem withLif_gpc (s : State) (f : Lif → Lif) : (s.withLif f).gpc = s.gpc := rfl
@[simp] theorem withLif_tmb (s : State) (f : Lif → Lif) : (s.withLif f).tmb = s.tmb := rfl
@[simp] theorem withLif_pending (s : State) (f : Lif → Lif) : (s.withLif f).pending = s.pending := rfl
@[simp] theorem withLif_freeCounter (s : State) (f : Lif → Lif) : (s.withLif f).freeCounter = s.freeCounter := rfl

@[simp] theorem offer_lif (s : State) (a : Advisory) : (s.offer a).lif = s.lif.offer a := rfl
@[simp] theorem offer_rsl (s : State) (a : Advisory) : (s.offer a).rsl = s.rsl := rfl
@[simp] theorem offer_tgm (s : State) (a : Advisory) : (s.offer a).tgm = s.tgm := rfl
@[simp] theorem offer_ctb (s : State) (a : Advisory) : (s.offer a).ctb = s.ctb := rfl
@[simp] theorem offer_chu (s : State) (a : Advisory) : (s.offer a).chu = s.chu := rfl
@[simp] theorem offer_gpc (s : State) (a : Advisory) : (s.offer a).gpc = s.gpc := rfl
@[simp] theorem offer_tmb (s : State) (a : Advisory) : (s.offer a).tmb = s.tmb := rfl
@[simp] theorem offer_pending (s : State) (a : Advisory) : (s.offer a).pending = s.pending := rfl
@[simp] theorem offer_freeCounter (s : State) (a : Advisory) : (s.offer a).freeCounter = s.freeCounter := rfl

@[simp] theorem putPlan_lif (s : State) (p : Nat) (q : Plan) : (s.putPlan p q).lif = s.lif := rfl
@[simp] theorem putPlan_rsl (s : State) (p : Nat) (q : Plan) : (s.putPlan p q).rsl =
      { s.rsl with plans := s.rsl.plans.put p q } := rfl
@[simp] theorem putPlan_tgm (s : State) (p : Nat) (q : Plan) : (s.putPlan p q).tgm = s.tgm := rfl
@[simp] theorem putPlan_ctb (s : State) (p : Nat) (q : Plan) : (s.putPlan p q).ctb = s.ctb := rfl
@[simp] theorem putPlan_chu (s : State) (p : Nat) (q : Plan) : (s.putPlan p q).chu = s.chu := rfl
@[simp] theorem putPlan_gpc (s : State) (p : Nat) (q : Plan) : (s.putPlan p q).gpc = s.gpc := rfl
@[simp] theorem putPlan_tmb (s : State) (p : Nat) (q : Plan) : (s.putPlan p q).tmb = s.tmb := rfl
@[simp] theorem putPlan_pending (s : State) (p : Nat) (q : Plan) : (s.putPlan p q).pending = s.pending := rfl
@[simp] theorem putPlan_freeCounter (s : State) (p : Nat) (q : Plan) : (s.putPlan p q).freeCounter = s.freeCounter := rfl

@[simp] theorem setPrefixes_lif (s : State) (t : List PrefixEntry) : (s.setPrefixes t).lif = s.lif := rfl
@[simp] theorem setPrefixes_rsl (s : State) (t : List PrefixEntry) : (s.setPrefixes t).rsl =
      { s.rsl with prefixes := t } := rfl
@[simp] theorem setPrefixes_tgm (s : State) (t : List PrefixEntry) : (s.setPrefixes t).tgm = s.tgm := rfl
@[simp] theorem setPrefixes_ctb (s : State) (t : List PrefixEntry) : (s.setPrefixes t).ctb = s.ctb := rfl
@[simp] theorem setPrefixes_chu (s : State) (t : List PrefixEntry) : (s.setPrefixes t).chu = s.chu := rfl
@[simp] theorem setPrefixes_gpc (s : State) (t : List PrefixEntry) : (s.setPrefixes t).gpc = s.gpc := rfl
@[simp] theorem setPrefixes_tmb (s : State) (t : List PrefixEntry) : (s.setPrefixes t).tmb = s.tmb := rfl
@[simp] theorem setPrefixes_pending (s : State) (t : List PrefixEntry) : (s.setPrefixes t).pending = s.pending := rfl
@[simp] theorem setPrefixes_freeCounter (s : State) (t : List PrefixEntry) : (s.setPrefixes t).freeCounter =
      s.freeCounter := rfl

@[simp] theorem putGroup_lif (s : State) (g : Nat) (grp : Group) : (s.putGroup g grp).lif = s.lif := rfl
@[simp] theorem putGroup_rsl (s : State) (g : Nat) (grp : Group) : (s.putGroup g grp).rsl = s.rsl := rfl
@[simp] theorem putGroup_tgm (s : State) (g : Nat) (grp : Group) : (s.putGroup g grp).tgm =
      { s.tgm with groups := s.tgm.groups.put g grp } := rfl
@[simp] theorem putGroup_ctb (s : State) (g : Nat) (grp : Group) : (s.putGroup g grp).ctb = s.ctb := rfl
@[simp] theorem putGroup_chu (s : State) (g : Nat) (grp : Group) : (s.putGroup g grp).chu = s.chu := rfl
@[simp] theorem putGroup_gpc (s : State) (g : Nat) (grp : Group) : (s.putGroup g grp).gpc = s.gpc := rfl
@[simp] theorem putGroup_tmb (s : State) (g : Nat) (grp : Group) : (s.putGroup g grp).tmb = s.tmb := rfl
@[simp] theorem putGroup_pending (s : State) (g : Nat) (grp : Group) : (s.putGroup g grp).pending = s.pending := rfl
@[simp] theorem putGroup_freeCounter (s : State) (g : Nat) (grp : Group) : (s.putGroup g grp).freeCounter =
      s.freeCounter := rfl

@[simp] theorem eraseGroup_lif (s : State) (g : Nat) : (s.eraseGroup g).lif = s.lif := rfl
@[simp] theorem eraseGroup_rsl (s : State) (g : Nat) : (s.eraseGroup g).rsl = s.rsl := rfl
@[simp] theorem eraseGroup_tgm (s : State) (g : Nat) : (s.eraseGroup g).tgm =
      { s.tgm with groups := s.tgm.groups.erase g } := rfl
@[simp] theorem eraseGroup_ctb (s : State) (g : Nat) : (s.eraseGroup g).ctb = s.ctb := rfl
@[simp] theorem eraseGroup_chu (s : State) (g : Nat) : (s.eraseGroup g).chu = s.chu := rfl
@[simp] theorem eraseGroup_gpc (s : State) (g : Nat) : (s.eraseGroup g).gpc = s.gpc := rfl
@[simp] theorem eraseGroup_tmb (s : State) (g : Nat) : (s.eraseGroup g).tmb = s.tmb := rfl
@[simp] theorem eraseGroup_pending (s : State) (g : Nat) : (s.eraseGroup g).pending = s.pending := rfl
@[simp] theorem eraseGroup_freeCounter (s : State) (g : Nat) : (s.eraseGroup g).freeCounter = s.freeCounter := rfl

@[simp] theorem putCircuit_lif (s : State) (i : Nat) (c : Circuit) : (s.putCircuit i c).lif = s.lif := rfl
@[simp] theorem putCircuit_rsl (s : State) (i : Nat) (c : Circuit) : (s.putCircuit i c).rsl = s.rsl := rfl
@[simp] theorem putCircuit_tgm (s : State) (i : Nat) (c : Circuit) : (s.putCircuit i c).tgm =
      { s.tgm with circuits := s.tgm.circuits.put i c } := rfl
@[simp] theorem putCircuit_ctb (s : State) (i : Nat) (c : Circuit) : (s.putCircuit i c).ctb = s.ctb := rfl
@[simp] theorem putCircuit_chu (s : State) (i : Nat) (c : Circuit) : (s.putCircuit i c).chu = s.chu := rfl
@[simp] theorem putCircuit_gpc (s : State) (i : Nat) (c : Circuit) : (s.putCircuit i c).gpc = s.gpc := rfl
@[simp] theorem putCircuit_tmb (s : State) (i : Nat) (c : Circuit) : (s.putCircuit i c).tmb = s.tmb := rfl
@[simp] theorem putCircuit_pending (s : State) (i : Nat) (c : Circuit) : (s.putCircuit i c).pending = s.pending := rfl
@[simp] theorem putCircuit_freeCounter (s : State) (i : Nat) (c : Circuit) : (s.putCircuit i c).freeCounter =
      s.freeCounter := rfl

@[simp] theorem setCircuits_lif (s : State) (t : Table Circuit) : (s.setCircuits t).lif = s.lif := rfl
@[simp] theorem setCircuits_rsl (s : State) (t : Table Circuit) : (s.setCircuits t).rsl = s.rsl := rfl
@[simp] theorem setCircuits_tgm (s : State) (t : Table Circuit) : (s.setCircuits t).tgm = { s.tgm with circuits := t } := rfl
@[simp] theorem setCircuits_ctb (s : State) (t : Table Circuit) : (s.setCircuits t).ctb = s.ctb := rfl
@[simp] theorem setCircuits_chu (s : State) (t : Table Circuit) : (s.setCircuits t).chu = s.chu := rfl
@[simp] theorem setCircuits_gpc (s : State) (t : Table Circuit) : (s.setCircuits t).gpc = s.gpc := rfl
@[simp] theorem setCircuits_tmb (s : State) (t : Table Circuit) : (s.setCircuits t).tmb = s.tmb := rfl
@[simp] theorem setCircuits_pending (s : State) (t : Table Circuit) : (s.setCircuits t).pending = s.pending := rfl
@[simp] theorem setCircuits_freeCounter (s : State) (t : Table Circuit) : (s.setCircuits t).freeCounter =
      s.freeCounter := rfl

@[simp] theorem setGroups_lif (s : State) (t : Table Group) : (s.setGroups t).lif = s.lif := rfl
@[simp] theorem setGroups_rsl (s : State) (t : Table Group) : (s.setGroups t).rsl = s.rsl := rfl
@[simp] theorem setGroups_tgm (s : State) (t : Table Group) : (s.setGroups t).tgm = { s.tgm with groups := t } := rfl
@[simp] theorem setGroups_ctb (s : State) (t : Table Group) : (s.setGroups t).ctb = s.ctb := rfl
@[simp] theorem setGroups_chu (s : State) (t : Table Group) : (s.setGroups t).chu = s.chu := rfl
@[simp] theorem setGroups_gpc (s : State) (t : Table Group) : (s.setGroups t).gpc = s.gpc := rfl
@[simp] theorem setGroups_tmb (s : State) (t : Table Group) : (s.setGroups t).tmb = s.tmb := rfl
@[simp] theorem setGroups_pending (s : State) (t : Table Group) : (s.setGroups t).pending = s.pending := rfl
@[simp] theorem setGroups_freeCounter (s : State) (t : Table Group) : (s.setGroups t).freeCounter = s.freeCounter := rfl

@[simp] theorem putCall_lif (s : State) (tag : Nat) (c : Call) : (s.putCall tag c).lif = s.lif := rfl
@[simp] theorem putCall_rsl (s : State) (tag : Nat) (c : Call) : (s.putCall tag c).rsl = s.rsl := rfl
@[simp] theorem putCall_tgm (s : State) (tag : Nat) (c : Call) : (s.putCall tag c).tgm = s.tgm := rfl
@[simp] theorem putCall_ctb (s : State) (tag : Nat) (c : Call) : (s.putCall tag c).ctb = s.ctb.put tag c := rfl
@[simp] theorem putCall_chu (s : State) (tag : Nat) (c : Call) : (s.putCall tag c).chu = s.chu := rfl
@[simp] theorem putCall_gpc (s : State) (tag : Nat) (c : Call) : (s.putCall tag c).gpc = s.gpc := rfl
@[simp] theorem putCall_tmb (s : State) (tag : Nat) (c : Call) : (s.putCall tag c).tmb = s.tmb := rfl
@[simp] theorem putCall_pending (s : State) (tag : Nat) (c : Call) : (s.putCall tag c).pending = s.pending := rfl
@[simp] theorem putCall_freeCounter (s : State) (tag : Nat) (c : Call) : (s.putCall tag c).freeCounter = s.freeCounter := rfl

@[simp] theorem eraseCall_lif (s : State) (tag : Nat) : (s.eraseCall tag).lif = s.lif := rfl
@[simp] theorem eraseCall_rsl (s : State) (tag : Nat) : (s.eraseCall tag).rsl = s.rsl := rfl
@[simp] theorem eraseCall_tgm (s : State) (tag : Nat) : (s.eraseCall tag).tgm = s.tgm := rfl
@[simp] theorem eraseCall_ctb (s : State) (tag : Nat) : (s.eraseCall tag).ctb = s.ctb.erase tag := rfl
@[simp] theorem eraseCall_chu (s : State) (tag : Nat) : (s.eraseCall tag).chu = s.chu := rfl
@[simp] theorem eraseCall_gpc (s : State) (tag : Nat) : (s.eraseCall tag).gpc = s.gpc := rfl
@[simp] theorem eraseCall_tmb (s : State) (tag : Nat) : (s.eraseCall tag).tmb = s.tmb := rfl
@[simp] theorem eraseCall_pending (s : State) (tag : Nat) : (s.eraseCall tag).pending = s.pending := rfl
@[simp] theorem eraseCall_freeCounter (s : State) (tag : Nat) : (s.eraseCall tag).freeCounter = s.freeCounter := rfl

@[simp] theorem setAccounts_lif (s : State) (t : Table Account) : (s.setAccounts t).lif = s.lif := rfl
@[simp] theorem setAccounts_rsl (s : State) (t : Table Account) : (s.setAccounts t).rsl = s.rsl := rfl
@[simp] theorem setAccounts_tgm (s : State) (t : Table Account) : (s.setAccounts t).tgm = s.tgm := rfl
@[simp] theorem setAccounts_ctb (s : State) (t : Table Account) : (s.setAccounts t).ctb = s.ctb := rfl
@[simp] theorem setAccounts_chu (s : State) (t : Table Account) : (s.setAccounts t).chu = { s.chu with accounts := t } := rfl
@[simp] theorem setAccounts_gpc (s : State) (t : Table Account) : (s.setAccounts t).gpc = s.gpc := rfl
@[simp] theorem setAccounts_tmb (s : State) (t : Table Account) : (s.setAccounts t).tmb = s.tmb := rfl
@[simp] theorem setAccounts_pending (s : State) (t : Table Account) : (s.setAccounts t).pending = s.pending := rfl
@[simp] theorem setAccounts_freeCounter (s : State) (t : Table Account) : (s.setAccounts t).freeCounter =
      s.freeCounter := rfl

@[simp] theorem putAccount_lif (s : State) (k : Nat) (a : Account) : (s.putAccount k a).lif = s.lif := rfl
@[simp] theorem putAccount_rsl (s : State) (k : Nat) (a : Account) : (s.putAccount k a).rsl = s.rsl := rfl
@[simp] theorem putAccount_tgm (s : State) (k : Nat) (a : Account) : (s.putAccount k a).tgm = s.tgm := rfl
@[simp] theorem putAccount_ctb (s : State) (k : Nat) (a : Account) : (s.putAccount k a).ctb = s.ctb := rfl
@[simp] theorem putAccount_chu (s : State) (k : Nat) (a : Account) : (s.putAccount k a).chu =
      { s.chu with accounts := s.chu.accounts.put k a } := rfl
@[simp] theorem putAccount_gpc (s : State) (k : Nat) (a : Account) : (s.putAccount k a).gpc = s.gpc := rfl
@[simp] theorem putAccount_tmb (s : State) (k : Nat) (a : Account) : (s.putAccount k a).tmb = s.tmb := rfl
@[simp] theorem putAccount_pending (s : State) (k : Nat) (a : Account) : (s.putAccount k a).pending = s.pending := rfl
@[simp] theorem putAccount_freeCounter (s : State) (k : Nat) (a : Account) : (s.putAccount k a).freeCounter =
      s.freeCounter := rfl

@[simp] theorem putTariff_lif (s : State) (c : Nat) (t : TariffClass) : (s.putTariff c t).lif = s.lif := rfl
@[simp] theorem putTariff_rsl (s : State) (c : Nat) (t : TariffClass) : (s.putTariff c t).rsl = s.rsl := rfl
@[simp] theorem putTariff_tgm (s : State) (c : Nat) (t : TariffClass) : (s.putTariff c t).tgm = s.tgm := rfl
@[simp] theorem putTariff_ctb (s : State) (c : Nat) (t : TariffClass) : (s.putTariff c t).ctb = s.ctb := rfl
@[simp] theorem putTariff_chu (s : State) (c : Nat) (t : TariffClass) : (s.putTariff c t).chu =
      { s.chu with tariffs := s.chu.tariffs.put c t } := rfl
@[simp] theorem putTariff_gpc (s : State) (c : Nat) (t : TariffClass) : (s.putTariff c t).gpc = s.gpc := rfl
@[simp] theorem putTariff_tmb (s : State) (c : Nat) (t : TariffClass) : (s.putTariff c t).tmb = s.tmb := rfl
@[simp] theorem putTariff_pending (s : State) (c : Nat) (t : TariffClass) : (s.putTariff c t).pending = s.pending := rfl
@[simp] theorem putTariff_freeCounter (s : State) (c : Nat) (t : TariffClass) : (s.putTariff c t).freeCounter =
      s.freeCounter := rfl

@[simp] theorem setPeriodState_lif (s : State) (p : Period) : (s.setPeriodState p).lif = s.lif := rfl
@[simp] theorem setPeriodState_rsl (s : State) (p : Period) : (s.setPeriodState p).rsl = s.rsl := rfl
@[simp] theorem setPeriodState_tgm (s : State) (p : Period) : (s.setPeriodState p).tgm = s.tgm := rfl
@[simp] theorem setPeriodState_ctb (s : State) (p : Period) : (s.setPeriodState p).ctb = s.ctb := rfl
@[simp] theorem setPeriodState_chu (s : State) (p : Period) : (s.setPeriodState p).chu = { s.chu with period := p } := rfl
@[simp] theorem setPeriodState_gpc (s : State) (p : Period) : (s.setPeriodState p).gpc = s.gpc := rfl
@[simp] theorem setPeriodState_tmb (s : State) (p : Period) : (s.setPeriodState p).tmb = s.tmb := rfl
@[simp] theorem setPeriodState_pending (s : State) (p : Period) : (s.setPeriodState p).pending = s.pending := rfl
@[simp] theorem setPeriodState_freeCounter (s : State) (p : Period) : (s.setPeriodState p).freeCounter = s.freeCounter := rfl

@[simp] theorem setGaps_lif (s : State) (t : Table Gap) : (s.setGaps t).lif = s.lif := rfl
@[simp] theorem setGaps_rsl (s : State) (t : Table Gap) : (s.setGaps t).rsl = s.rsl := rfl
@[simp] theorem setGaps_tgm (s : State) (t : Table Gap) : (s.setGaps t).tgm = s.tgm := rfl
@[simp] theorem setGaps_ctb (s : State) (t : Table Gap) : (s.setGaps t).ctb = s.ctb := rfl
@[simp] theorem setGaps_chu (s : State) (t : Table Gap) : (s.setGaps t).chu = s.chu := rfl
@[simp] theorem setGaps_gpc (s : State) (t : Table Gap) : (s.setGaps t).gpc = { s.gpc with gaps := t } := rfl
@[simp] theorem setGaps_tmb (s : State) (t : Table Gap) : (s.setGaps t).tmb = s.tmb := rfl
@[simp] theorem setGaps_pending (s : State) (t : Table Gap) : (s.setGaps t).pending = s.pending := rfl
@[simp] theorem setGaps_freeCounter (s : State) (t : Table Gap) : (s.setGaps t).freeCounter = s.freeCounter := rfl

@[simp] theorem setTime_lif (s : State) (t : Tmb) : (s.setTime t).lif = s.lif := rfl
@[simp] theorem setTime_rsl (s : State) (t : Tmb) : (s.setTime t).rsl = s.rsl := rfl
@[simp] theorem setTime_tgm (s : State) (t : Tmb) : (s.setTime t).tgm = s.tgm := rfl
@[simp] theorem setTime_ctb (s : State) (t : Tmb) : (s.setTime t).ctb = s.ctb := rfl
@[simp] theorem setTime_chu (s : State) (t : Tmb) : (s.setTime t).chu = s.chu := rfl
@[simp] theorem setTime_gpc (s : State) (t : Tmb) : (s.setTime t).gpc = s.gpc := rfl
@[simp] theorem setTime_tmb (s : State) (t : Tmb) : (s.setTime t).tmb = t := rfl
@[simp] theorem setTime_pending (s : State) (t : Tmb) : (s.setTime t).pending = s.pending := rfl
@[simp] theorem setTime_freeCounter (s : State) (t : Tmb) : (s.setTime t).freeCounter = s.freeCounter := rfl

@[simp] theorem popRequest_lif (s : State) : (s.popRequest).lif = { s.lif with requests := s.lif.requests.tail } := rfl
@[simp] theorem popRequest_rsl (s : State) : (s.popRequest).rsl = s.rsl := rfl
@[simp] theorem popRequest_tgm (s : State) : (s.popRequest).tgm = s.tgm := rfl
@[simp] theorem popRequest_ctb (s : State) : (s.popRequest).ctb = s.ctb := rfl
@[simp] theorem popRequest_chu (s : State) : (s.popRequest).chu = s.chu := rfl
@[simp] theorem popRequest_gpc (s : State) : (s.popRequest).gpc = s.gpc := rfl
@[simp] theorem popRequest_tmb (s : State) : (s.popRequest).tmb = s.tmb := rfl
@[simp] theorem popRequest_pending (s : State) : (s.popRequest).pending = s.pending := rfl
@[simp] theorem popRequest_freeCounter (s : State) : (s.popRequest).freeCounter = s.freeCounter := rfl

@[simp] theorem reply_lif (s : State) (kind number : Byte) (fields : List Byte) : (s.reply kind number fields).lif =
      { s.lif with
        replies := s.lif.replies ++ [{ kind := replyKind kind, number := number, body := s.summaryByte :: fields }] } := rfl
@[simp] theorem reply_rsl (s : State) (kind number : Byte) (fields : List Byte) : (s.reply kind number fields).rsl =
      s.rsl := rfl
@[simp] theorem reply_tgm (s : State) (kind number : Byte) (fields : List Byte) : (s.reply kind number fields).tgm =
      s.tgm := rfl
@[simp] theorem reply_ctb (s : State) (kind number : Byte) (fields : List Byte) : (s.reply kind number fields).ctb =
      s.ctb := rfl
@[simp] theorem reply_chu (s : State) (kind number : Byte) (fields : List Byte) : (s.reply kind number fields).chu =
      s.chu := rfl
@[simp] theorem reply_gpc (s : State) (kind number : Byte) (fields : List Byte) : (s.reply kind number fields).gpc =
      s.gpc := rfl
@[simp] theorem reply_tmb (s : State) (kind number : Byte) (fields : List Byte) : (s.reply kind number fields).tmb =
      s.tmb := rfl
@[simp] theorem reply_pending (s : State) (kind number : Byte) (fields : List Byte) : (s.reply kind number fields).pending =
      s.pending := rfl
@[simp] theorem reply_freeCounter (s : State) (kind number : Byte) (fields : List Byte) : (s.reply kind number fields).freeCounter =
      s.freeCounter := rfl

end Sys2Proof.Machine.State
end

