-- ==== Sys2Proof/Laws/Tables.lean ====
section
/-! SUPPORT. The laws of tables: what reading after a write, a removal or a change of every record gives, and that each keeps the
canonical form. -/

namespace Sys2Proof.Machine.Table

variable {α : Type}

@[simp] theorem get?_nil (k : Nat) : get? ([] : Table α) k = none := rfl

/-- Reading the key just written gives what was written. -/
@[simp] theorem get?_put_self (t : Table α) (k : Nat) (v : α) : (t.put k v).get? k = some v := by
  induction t with
  | nil => simp [put, get?]
  | cons e t ih =>
    obtain ⟨k', v'⟩ := e
    simp only [put]
    split
    · simp [get?]
    · split
      · simp [get?]
      · rename_i h1 h2
        have : ¬ k' = k := fun h => h2 h.symm
        simp [get?, this, ih]

/-- Reading another key gives what it gave before the write. -/
theorem get?_put_ne (t : Table α) {k j : Nat} (v : α) (h : j ≠ k) : (t.put k v).get? j = t.get? j := by
  have hk : ¬ k = j := fun e => h e.symm
  induction t with
  | nil => simp [put, get?, hk]
  | cons e t ih =>
    obtain ⟨k', v'⟩ := e
    simp only [put]
    split
    · simp [get?, hk]
    · split
      · rename_i h1 h2
        subst h2
        simp [get?, hk]
      · simp only [get?, ih]

/-- Reading after a write, at any key. -/
theorem get?_put (t : Table α) (k j : Nat) (v : α) : (t.put k v).get? j = if j = k then some v else t.get? j := by
  split
  · rename_i h; subst h; simp
  · rename_i h; exact get?_put_ne t v h

/-- Reading another key gives what it gave before the removal. -/
theorem get?_erase_ne (t : Table α) {k j : Nat} (h : j ≠ k) : (t.erase k).get? j = t.get? j := by
  have hk : ¬ k = j := fun e => h e.symm
  induction t with
  | nil => rfl
  | cons e t ih =>
    obtain ⟨k', v'⟩ := e
    simp only [erase]
    split
    · rename_i h1; subst h1; simp [get?, hk]
    · simp only [get?, ih]

/-- A record read stands in the table. -/
theorem mem_of_get? (t : Table α) {k : Nat} {v : α} (h : t.get? k = some v) : (k, v) ∈ t := by
  induction t with
  | nil => simp at h
  | cons e t ih =>
    obtain ⟨k', v'⟩ := e
    simp only [get?] at h
    split at h
    · rename_i h1; subst h1; simp_all
    · exact List.mem_cons_of_mem _ (ih h)

/-- The canonical form of a table behind its first record. -/
theorem wf_cons (k : Nat) (v : α) (t : Table α) :
    wf ((k, v) :: t) = true ↔ (∀ e ∈ t, k < e.1) ∧ wf t = true := by
  simp [wf, List.all_eq_true]

/-- A key below every key of a table is not there. -/
theorem get?_eq_none_of_lt (t : Table α) {k : Nat} (h : ∀ e ∈ t, k < e.1) : t.get? k = none := by
  induction t with
  | nil => rfl
  | cons e t ih =>
    obtain ⟨k', v'⟩ := e
    have h1 : k < k' := h (k', v') (by simp)
    simp only [get?, if_neg (by omega : ¬ k' = k)]
    exact ih (fun e he => h e (List.mem_cons_of_mem _ he))

/-- In a canonical table, a record that stands in it is the one read at its key. -/
theorem get?_of_mem (t : Table α) (hw : t.wf = true) {k : Nat} {v : α} (h : (k, v) ∈ t) : t.get? k = some v := by
  induction t with
  | nil => simp at h
  | cons e t ih =>
    obtain ⟨k', v'⟩ := e
    rw [wf_cons] at hw
    rcases List.mem_cons.mp h with h | h
    · cases h; simp [get?]
    · have := hw.1 _ h
      simp only [get?, if_neg (by simp at this; omega : ¬ k' = k)]
      exact ih hw.2 h

/-- In a canonical table, standing in it and being read are one. -/
theorem mem_iff_get? (t : Table α) (hw : t.wf = true) (k : Nat) (v : α) : (k, v) ∈ t ↔ t.get? k = some v :=
  ⟨get?_of_mem t hw, mem_of_get? t⟩

/-- In a canonical table a removal leaves nothing at the key. -/
theorem get?_erase_self (t : Table α) (hw : t.wf = true) (k : Nat) : (t.erase k).get? k = none := by
  induction t with
  | nil => rfl
  | cons e t ih =>
    obtain ⟨k', v'⟩ := e
    rw [wf_cons] at hw
    simp only [erase]
    split
    · rename_i h; subst h; exact get?_eq_none_of_lt t hw.1
    · rename_i h; simp only [get?, if_neg h]; exact ih hw.2

/-- What stands in a table after a write was written or stood in it before. -/
theorem mem_put (t : Table α) {k : Nat} {v : α} {e : Nat × α} (h : e ∈ t.put k v) : e = (k, v) ∨ e ∈ t := by
  induction t with
  | nil => simp [put] at h; exact Or.inl h
  | cons d t ih =>
    obtain ⟨k', v'⟩ := d
    simp only [put] at h
    split at h
    · rcases List.mem_cons.mp h with h | h
      · exact Or.inl h
      · exact Or.inr h
    · split at h
      · rcases List.mem_cons.mp h with h | h
        · exact Or.inl h
        · exact Or.inr (List.mem_cons_of_mem _ h)
      · rcases List.mem_cons.mp h with h | h
        · exact Or.inr (h ▸ List.mem_cons_self)
        · exact (ih h).imp_right (List.mem_cons_of_mem _)

/-- What stands in a table after a removal stood in it before. -/
theorem mem_erase (t : Table α) {k : Nat} {e : Nat × α} (h : e ∈ t.erase k) : e ∈ t := by
  induction t with
  | nil => simp [erase] at h
  | cons d t ih =>
    obtain ⟨k', v'⟩ := d
    simp only [erase] at h
    split at h
    · exact List.mem_cons_of_mem _ h
    · rcases List.mem_cons.mp h with h | h
      · exact h ▸ List.mem_cons_self
      · exact List.mem_cons_of_mem _ (ih h)

/-- A write keeps the canonical form. -/
theorem wf_put (t : Table α) (hw : t.wf = true) (k : Nat) (v : α) : (t.put k v).wf = true := by
  induction t with
  | nil => simp [put, wf]
  | cons d t ih =>
    obtain ⟨k', v'⟩ := d
    have hc := (wf_cons k' v' t).mp hw
    simp only [put]
    split
    · rename_i h
      refine (wf_cons k v _).mpr ⟨fun e he => ?_, hw⟩
      rcases List.mem_cons.mp he with he | he
      · subst he; exact h
      · exact Nat.lt_trans h (hc.1 e he)
    · split
      · rename_i h; subst h; exact (wf_cons k v t).mpr hc
      · rename_i h1 h2
        refine (wf_cons k' v' _).mpr ⟨fun e he => ?_, ih hc.2⟩
        rcases mem_put t he with he | he
        · subst he; simp; omega
        · exact hc.1 e he

/-- A removal keeps the canonical form. -/
theorem wf_erase (t : Table α) (hw : t.wf = true) (k : Nat) : (t.erase k).wf = true := by
  induction t with
  | nil => rfl
  | cons d t ih =>
    obtain ⟨k', v'⟩ := d
    have hc := (wf_cons k' v' t).mp hw
    simp only [erase]
    split
    · exact hc.2
    · exact (wf_cons k' v' _).mpr ⟨fun e he => hc.1 e (mem_erase t he), ih hc.2⟩

/-- Keeping some records keeps the canonical form. -/
theorem wf_filter (t : Table α) (hw : t.wf = true) (p : Nat × α → Bool) : wf (t.filter p) = true := by
  induction t with
  | nil => rfl
  | cons d t ih =>
    obtain ⟨k', v'⟩ := d
    have hc := (wf_cons k' v' t).mp hw
    simp only [List.filter]
    split
    · exact (wf_cons k' v' _).mpr ⟨fun e he => hc.1 e (List.mem_filter.mp he).1, ih hc.2⟩
    · exact ih hc.2

/-- Changing every record is the map over the table. -/
theorem mapValues_eq_map (f : Nat → α → α) (t : Table α) : t.mapValues f = t.map (fun e => (e.1, f e.1 e.2)) := by
  induction t with
  | nil => rfl
  | cons d t ih => obtain ⟨k, v⟩ := d; simp [mapValues, ih]

/-- Reading after a change of every record. -/
theorem get?_mapValues (f : Nat → α → α) (t : Table α) (k : Nat) : (t.mapValues f).get? k = (t.get? k).map (f k) := by
  induction t with
  | nil => rfl
  | cons d t ih =>
    obtain ⟨k', v'⟩ := d
    simp only [mapValues, get?]
    split
    · rename_i h; subst h; rfl
    · exact ih

/-- Changing every record keeps the keys, and so the canonical form. -/
theorem wf_mapValues (f : Nat → α → α) (t : Table α) (hw : t.wf = true) : (t.mapValues f).wf = true := by
  induction t with
  | nil => rfl
  | cons d t ih =>
    obtain ⟨k', v'⟩ := d
    have hc := (wf_cons k' v' t).mp hw
    refine (wf_cons k' _ _).mpr ⟨fun e he => ?_, ih hc.2⟩
    rw [mapValues_eq_map] at he
    obtain ⟨d, hd, rfl⟩ := List.mem_map.mp he
    exact hc.1 d hd

/-- Reading a canonical table of which some records were kept. -/
theorem get?_filter (t : Table α) (hw : t.wf = true) (p : Nat × α → Bool) (k : Nat) :
    get? (t.filter p) k = (t.get? k).filter (fun v => p (k, v)) := by
  induction t with
  | nil => rfl
  | cons d t ih =>
    obtain ⟨k', v'⟩ := d
    have hc := (wf_cons k' v' t).mp hw
    by_cases hk : k' = k
    · subst hk
      have hn : get? t k' = none := get?_eq_none_of_lt t hc.1
      by_cases hp : p (k', v') = true
      · simp [List.filter, hp, get?, Option.filter]
      · rw [List.filter_cons_of_neg hp, ih hc.2, hn]
        simp [get?, hp, Option.filter]
    · by_cases hp : p (k', v') = true
      · rw [List.filter_cons_of_pos hp]
        simp only [get?, if_neg hk]; exact ih hc.2
      · rw [List.filter_cons_of_neg hp]
        simp only [get?, if_neg hk]; exact ih hc.2

end Sys2Proof.Machine.Table
end

