-- ==== Sys2Proof/Laws/Access.lean ====
section
/-! SUPPORT. What each update of the state leaves to be read: a read of another table is unchanged, and a read of the written table
is the table's own law. -/

namespace Sys2Proof.Machine.State

@[simp] theorem withLif_plan (s : State) (f : Lif → Lif) (j : Nat) : (s.withLif f).plan? j = s.plan? j := rfl
@[simp] theorem withLif_group (s : State) (f : Lif → Lif) (j : Nat) : (s.withLif f).group? j = s.group? j := rfl
@[simp] theorem withLif_circuit (s : State) (f : Lif → Lif) (j : Nat) : (s.withLif f).circuit? j = s.circuit? j := rfl
@[simp] theorem withLif_call (s : State) (f : Lif → Lif) (j : Nat) : (s.withLif f).call? j = s.call? j := rfl
@[simp] theorem withLif_account (s : State) (f : Lif → Lif) (j : Nat) : (s.withLif f).account? j = s.account? j := rfl
@[simp] theorem withLif_tariff (s : State) (f : Lif → Lif) (j : Nat) : (s.withLif f).tariff? j = s.tariff? j := rfl
@[simp] theorem withLif_now (s : State) (f : Lif → Lif) : (s.withLif f).now = s.now := rfl

@[simp] theorem offer_plan (s : State) (a : Advisory) (j : Nat) : (s.offer a).plan? j = s.plan? j := rfl
@[simp] theorem offer_group (s : State) (a : Advisory) (j : Nat) : (s.offer a).group? j = s.group? j := rfl
@[simp] theorem offer_circuit (s : State) (a : Advisory) (j : Nat) : (s.offer a).circuit? j = s.circuit? j := rfl
@[simp] theorem offer_call (s : State) (a : Advisory) (j : Nat) : (s.offer a).call? j = s.call? j := rfl
@[simp] theorem offer_account (s : State) (a : Advisory) (j : Nat) : (s.offer a).account? j = s.account? j := rfl
@[simp] theorem offer_tariff (s : State) (a : Advisory) (j : Nat) : (s.offer a).tariff? j = s.tariff? j := rfl
@[simp] theorem offer_now (s : State) (a : Advisory) : (s.offer a).now = s.now := rfl

@[simp] theorem putPlan_group (s : State) (p : Nat) (q : Plan) (j : Nat) : (s.putPlan p q).group? j = s.group? j := rfl
@[simp] theorem putPlan_circuit (s : State) (p : Nat) (q : Plan) (j : Nat) : (s.putPlan p q).circuit? j = s.circuit? j := rfl
@[simp] theorem putPlan_call (s : State) (p : Nat) (q : Plan) (j : Nat) : (s.putPlan p q).call? j = s.call? j := rfl
@[simp] theorem putPlan_account (s : State) (p : Nat) (q : Plan) (j : Nat) : (s.putPlan p q).account? j = s.account? j := rfl
@[simp] theorem putPlan_tariff (s : State) (p : Nat) (q : Plan) (j : Nat) : (s.putPlan p q).tariff? j = s.tariff? j := rfl
@[simp] theorem putPlan_now (s : State) (p : Nat) (q : Plan) : (s.putPlan p q).now = s.now := rfl

@[simp] theorem setPrefixes_plan (s : State) (t : List PrefixEntry) (j : Nat) : (s.setPrefixes t).plan? j = s.plan? j := rfl
@[simp] theorem setPrefixes_group (s : State) (t : List PrefixEntry) (j : Nat) :
    (s.setPrefixes t).group? j = s.group? j := rfl
@[simp] theorem setPrefixes_circuit (s : State) (t : List PrefixEntry) (j : Nat) :
    (s.setPrefixes t).circuit? j = s.circuit? j := rfl
@[simp] theorem setPrefixes_call (s : State) (t : List PrefixEntry) (j : Nat) : (s.setPrefixes t).call? j = s.call? j := rfl
@[simp] theorem setPrefixes_account (s : State) (t : List PrefixEntry) (j : Nat) :
    (s.setPrefixes t).account? j = s.account? j := rfl
@[simp] theorem setPrefixes_tariff (s : State) (t : List PrefixEntry) (j : Nat) :
    (s.setPrefixes t).tariff? j = s.tariff? j := rfl
@[simp] theorem setPrefixes_now (s : State) (t : List PrefixEntry) : (s.setPrefixes t).now = s.now := rfl

@[simp] theorem putGroup_plan (s : State) (g : Nat) (grp : Group) (j : Nat) : (s.putGroup g grp).plan? j = s.plan? j := rfl
@[simp] theorem putGroup_circuit (s : State) (g : Nat) (grp : Group) (j : Nat) :
    (s.putGroup g grp).circuit? j = s.circuit? j := rfl
@[simp] theorem putGroup_call (s : State) (g : Nat) (grp : Group) (j : Nat) : (s.putGroup g grp).call? j = s.call? j := rfl
@[simp] theorem putGroup_account (s : State) (g : Nat) (grp : Group) (j : Nat) :
    (s.putGroup g grp).account? j = s.account? j := rfl
@[simp] theorem putGroup_tariff (s : State) (g : Nat) (grp : Group) (j : Nat) :
    (s.putGroup g grp).tariff? j = s.tariff? j := rfl
@[simp] theorem putGroup_now (s : State) (g : Nat) (grp : Group) : (s.putGroup g grp).now = s.now := rfl

@[simp] theorem eraseGroup_plan (s : State) (g : Nat) (j : Nat) : (s.eraseGroup g).plan? j = s.plan? j := rfl
@[simp] theorem eraseGroup_circuit (s : State) (g : Nat) (j : Nat) : (s.eraseGroup g).circuit? j = s.circuit? j := rfl
@[simp] theorem eraseGroup_call (s : State) (g : Nat) (j : Nat) : (s.eraseGroup g).call? j = s.call? j := rfl
@[simp] theorem eraseGroup_account (s : State) (g : Nat) (j : Nat) : (s.eraseGroup g).account? j = s.account? j := rfl
@[simp] theorem eraseGroup_tariff (s : State) (g : Nat) (j : Nat) : (s.eraseGroup g).tariff? j = s.tariff? j := rfl
@[simp] theorem eraseGroup_now (s : State) (g : Nat) : (s.eraseGroup g).now = s.now := rfl

@[simp] theorem putCircuit_plan (s : State) (i : Nat) (c : Circuit) (j : Nat) : (s.putCircuit i c).plan? j = s.plan? j := rfl
@[simp] theorem putCircuit_group (s : State) (i : Nat) (c : Circuit) (j : Nat) :
    (s.putCircuit i c).group? j = s.group? j := rfl
@[simp] theorem putCircuit_call (s : State) (i : Nat) (c : Circuit) (j : Nat) : (s.putCircuit i c).call? j = s.call? j := rfl
@[simp] theorem putCircuit_account (s : State) (i : Nat) (c : Circuit) (j : Nat) :
    (s.putCircuit i c).account? j = s.account? j := rfl
@[simp] theorem putCircuit_tariff (s : State) (i : Nat) (c : Circuit) (j : Nat) :
    (s.putCircuit i c).tariff? j = s.tariff? j := rfl
@[simp] theorem putCircuit_now (s : State) (i : Nat) (c : Circuit) : (s.putCircuit i c).now = s.now := rfl

@[simp] theorem setGroups_plan (s : State) (t : Table Group) (j : Nat) : (s.setGroups t).plan? j = s.plan? j := rfl
@[simp] theorem setGroups_circuit (s : State) (t : Table Group) (j : Nat) : (s.setGroups t).circuit? j = s.circuit? j := rfl
@[simp] theorem setGroups_call (s : State) (t : Table Group) (j : Nat) : (s.setGroups t).call? j = s.call? j := rfl
@[simp] theorem setGroups_account (s : State) (t : Table Group) (j : Nat) : (s.setGroups t).account? j = s.account? j := rfl
@[simp] theorem setGroups_tariff (s : State) (t : Table Group) (j : Nat) : (s.setGroups t).tariff? j = s.tariff? j := rfl
@[simp] theorem setGroups_now (s : State) (t : Table Group) : (s.setGroups t).now = s.now := rfl
@[simp] theorem group_setGroups (s : State) (t : Table Group) (j : Nat) : (s.setGroups t).group? j = t.get? j := rfl

@[simp] theorem setCircuits_plan (s : State) (t : Table Circuit) (j : Nat) : (s.setCircuits t).plan? j = s.plan? j := rfl
@[simp] theorem setCircuits_group (s : State) (t : Table Circuit) (j : Nat) : (s.setCircuits t).group? j = s.group? j := rfl
@[simp] theorem setCircuits_call (s : State) (t : Table Circuit) (j : Nat) : (s.setCircuits t).call? j = s.call? j := rfl
@[simp] theorem setCircuits_account (s : State) (t : Table Circuit) (j : Nat) :
    (s.setCircuits t).account? j = s.account? j := rfl
@[simp] theorem setCircuits_tariff (s : State) (t : Table Circuit) (j : Nat) :
    (s.setCircuits t).tariff? j = s.tariff? j := rfl
@[simp] theorem setCircuits_now (s : State) (t : Table Circuit) : (s.setCircuits t).now = s.now := rfl

@[simp] theorem putCall_plan (s : State) (tag : Nat) (c : Call) (j : Nat) : (s.putCall tag c).plan? j = s.plan? j := rfl
@[simp] theorem putCall_group (s : State) (tag : Nat) (c : Call) (j : Nat) : (s.putCall tag c).group? j = s.group? j := rfl
@[simp] theorem putCall_circuit (s : State) (tag : Nat) (c : Call) (j : Nat) :
    (s.putCall tag c).circuit? j = s.circuit? j := rfl
@[simp] theorem putCall_account (s : State) (tag : Nat) (c : Call) (j : Nat) :
    (s.putCall tag c).account? j = s.account? j := rfl
@[simp] theorem putCall_tariff (s : State) (tag : Nat) (c : Call) (j : Nat) :
    (s.putCall tag c).tariff? j = s.tariff? j := rfl
@[simp] theorem putCall_now (s : State) (tag : Nat) (c : Call) : (s.putCall tag c).now = s.now := rfl

@[simp] theorem eraseCall_plan (s : State) (tag : Nat) (j : Nat) : (s.eraseCall tag).plan? j = s.plan? j := rfl
@[simp] theorem eraseCall_group (s : State) (tag : Nat) (j : Nat) : (s.eraseCall tag).group? j = s.group? j := rfl
@[simp] theorem eraseCall_circuit (s : State) (tag : Nat) (j : Nat) : (s.eraseCall tag).circuit? j = s.circuit? j := rfl
@[simp] theorem eraseCall_account (s : State) (tag : Nat) (j : Nat) : (s.eraseCall tag).account? j = s.account? j := rfl
@[simp] theorem eraseCall_tariff (s : State) (tag : Nat) (j : Nat) : (s.eraseCall tag).tariff? j = s.tariff? j := rfl
@[simp] theorem eraseCall_now (s : State) (tag : Nat) : (s.eraseCall tag).now = s.now := rfl

@[simp] theorem setAccounts_plan (s : State) (t : Table Account) (j : Nat) : (s.setAccounts t).plan? j = s.plan? j := rfl
@[simp] theorem setAccounts_group (s : State) (t : Table Account) (j : Nat) : (s.setAccounts t).group? j = s.group? j := rfl
@[simp] theorem setAccounts_circuit (s : State) (t : Table Account) (j : Nat) :
    (s.setAccounts t).circuit? j = s.circuit? j := rfl
@[simp] theorem setAccounts_call (s : State) (t : Table Account) (j : Nat) : (s.setAccounts t).call? j = s.call? j := rfl
@[simp] theorem setAccounts_tariff (s : State) (t : Table Account) (j : Nat) :
    (s.setAccounts t).tariff? j = s.tariff? j := rfl
@[simp] theorem setAccounts_now (s : State) (t : Table Account) : (s.setAccounts t).now = s.now := rfl

@[simp] theorem putAccount_plan (s : State) (k : Nat) (a : Account) (j : Nat) : (s.putAccount k a).plan? j = s.plan? j := rfl
@[simp] theorem putAccount_group (s : State) (k : Nat) (a : Account) (j : Nat) :
    (s.putAccount k a).group? j = s.group? j := rfl
@[simp] theorem putAccount_circuit (s : State) (k : Nat) (a : Account) (j : Nat) :
    (s.putAccount k a).circuit? j = s.circuit? j := rfl
@[simp] theorem putAccount_call (s : State) (k : Nat) (a : Account) (j : Nat) : (s.putAccount k a).call? j = s.call? j := rfl
@[simp] theorem putAccount_tariff (s : State) (k : Nat) (a : Account) (j : Nat) :
    (s.putAccount k a).tariff? j = s.tariff? j := rfl
@[simp] theorem putAccount_now (s : State) (k : Nat) (a : Account) : (s.putAccount k a).now = s.now := rfl

@[simp] theorem putTariff_plan (s : State) (c : Nat) (t : TariffClass) (j : Nat) :
    (s.putTariff c t).plan? j = s.plan? j := rfl
@[simp] theorem putTariff_group (s : State) (c : Nat) (t : TariffClass) (j : Nat) :
    (s.putTariff c t).group? j = s.group? j := rfl
@[simp] theorem putTariff_circuit (s : State) (c : Nat) (t : TariffClass) (j : Nat) :
    (s.putTariff c t).circuit? j = s.circuit? j := rfl
@[simp] theorem putTariff_call (s : State) (c : Nat) (t : TariffClass) (j : Nat) :
    (s.putTariff c t).call? j = s.call? j := rfl
@[simp] theorem putTariff_account (s : State) (c : Nat) (t : TariffClass) (j : Nat) :
    (s.putTariff c t).account? j = s.account? j := rfl
@[simp] theorem putTariff_now (s : State) (c : Nat) (t : TariffClass) : (s.putTariff c t).now = s.now := rfl

@[simp] theorem setPeriodState_plan (s : State) (p : Period) (j : Nat) : (s.setPeriodState p).plan? j = s.plan? j := rfl
@[simp] theorem setPeriodState_group (s : State) (p : Period) (j : Nat) : (s.setPeriodState p).group? j = s.group? j := rfl
@[simp] theorem setPeriodState_circuit (s : State) (p : Period) (j : Nat) :
    (s.setPeriodState p).circuit? j = s.circuit? j := rfl
@[simp] theorem setPeriodState_call (s : State) (p : Period) (j : Nat) : (s.setPeriodState p).call? j = s.call? j := rfl
@[simp] theorem setPeriodState_account (s : State) (p : Period) (j : Nat) :
    (s.setPeriodState p).account? j = s.account? j := rfl
@[simp] theorem setPeriodState_tariff (s : State) (p : Period) (j : Nat) :
    (s.setPeriodState p).tariff? j = s.tariff? j := rfl
@[simp] theorem setPeriodState_now (s : State) (p : Period) : (s.setPeriodState p).now = s.now := rfl

@[simp] theorem setGaps_plan (s : State) (t : Table Gap) (j : Nat) : (s.setGaps t).plan? j = s.plan? j := rfl
@[simp] theorem setGaps_group (s : State) (t : Table Gap) (j : Nat) : (s.setGaps t).group? j = s.group? j := rfl
@[simp] theorem setGaps_circuit (s : State) (t : Table Gap) (j : Nat) : (s.setGaps t).circuit? j = s.circuit? j := rfl
@[simp] theorem setGaps_call (s : State) (t : Table Gap) (j : Nat) : (s.setGaps t).call? j = s.call? j := rfl
@[simp] theorem setGaps_account (s : State) (t : Table Gap) (j : Nat) : (s.setGaps t).account? j = s.account? j := rfl
@[simp] theorem setGaps_tariff (s : State) (t : Table Gap) (j : Nat) : (s.setGaps t).tariff? j = s.tariff? j := rfl
@[simp] theorem setGaps_now (s : State) (t : Table Gap) : (s.setGaps t).now = s.now := rfl

@[simp] theorem setTime_plan (s : State) (t : Tmb) (j : Nat) : (s.setTime t).plan? j = s.plan? j := rfl
@[simp] theorem setTime_group (s : State) (t : Tmb) (j : Nat) : (s.setTime t).group? j = s.group? j := rfl
@[simp] theorem setTime_circuit (s : State) (t : Tmb) (j : Nat) : (s.setTime t).circuit? j = s.circuit? j := rfl
@[simp] theorem setTime_call (s : State) (t : Tmb) (j : Nat) : (s.setTime t).call? j = s.call? j := rfl
@[simp] theorem setTime_account (s : State) (t : Tmb) (j : Nat) : (s.setTime t).account? j = s.account? j := rfl
@[simp] theorem setTime_tariff (s : State) (t : Tmb) (j : Nat) : (s.setTime t).tariff? j = s.tariff? j := rfl

@[simp] theorem popRequest_plan (s : State) (j : Nat) : (s.popRequest).plan? j = s.plan? j := rfl
@[simp] theorem popRequest_group (s : State) (j : Nat) : (s.popRequest).group? j = s.group? j := rfl
@[simp] theorem popRequest_circuit (s : State) (j : Nat) : (s.popRequest).circuit? j = s.circuit? j := rfl
@[simp] theorem popRequest_call (s : State) (j : Nat) : (s.popRequest).call? j = s.call? j := rfl
@[simp] theorem popRequest_account (s : State) (j : Nat) : (s.popRequest).account? j = s.account? j := rfl
@[simp] theorem popRequest_tariff (s : State) (j : Nat) : (s.popRequest).tariff? j = s.tariff? j := rfl
@[simp] theorem popRequest_now (s : State) : (s.popRequest).now = s.now := rfl

@[simp] theorem reply_plan (s : State) (kind number : Byte) (fields : List Byte) (j : Nat) :
    (s.reply kind number fields).plan? j = s.plan? j := rfl
@[simp] theorem reply_group (s : State) (kind number : Byte) (fields : List Byte) (j : Nat) :
    (s.reply kind number fields).group? j = s.group? j := rfl
@[simp] theorem reply_circuit (s : State) (kind number : Byte) (fields : List Byte) (j : Nat) :
    (s.reply kind number fields).circuit? j = s.circuit? j := rfl
@[simp] theorem reply_call (s : State) (kind number : Byte) (fields : List Byte) (j : Nat) :
    (s.reply kind number fields).call? j = s.call? j := rfl
@[simp] theorem reply_account (s : State) (kind number : Byte) (fields : List Byte) (j : Nat) :
    (s.reply kind number fields).account? j = s.account? j := rfl
@[simp] theorem reply_tariff (s : State) (kind number : Byte) (fields : List Byte) (j : Nat) :
    (s.reply kind number fields).tariff? j = s.tariff? j := rfl
@[simp] theorem reply_now (s : State) (kind number : Byte) (fields : List Byte) :
    (s.reply kind number fields).now = s.now := rfl

@[simp] theorem plan_putPlan_self (s : State) (p : Nat) (q : Plan) : (s.putPlan p q).plan? p = some q :=
  Table.get?_put_self _ _ _

theorem plan_putPlan_ne (s : State) (p : Nat) (q : Plan) (j : Nat) (h : j ≠ p) :
    (s.putPlan p q).plan? j = s.plan? j := Table.get?_put_ne _ _ h

@[simp] theorem group_putGroup_self (s : State) (g : Nat) (grp : Group) : (s.putGroup g grp).group? g = some grp :=
  Table.get?_put_self _ _ _

theorem group_putGroup_ne (s : State) (g : Nat) (grp : Group) (j : Nat) (h : j ≠ g) :
    (s.putGroup g grp).group? j = s.group? j := Table.get?_put_ne _ _ h

@[simp] theorem circuit_putCircuit_self (s : State) (i : Nat) (c : Circuit) : (s.putCircuit i c).circuit? i = some c :=
  Table.get?_put_self _ _ _

theorem circuit_putCircuit_ne (s : State) (i : Nat) (c : Circuit) (j : Nat) (h : j ≠ i) :
    (s.putCircuit i c).circuit? j = s.circuit? j := Table.get?_put_ne _ _ h

@[simp] theorem call_putCall_self (s : State) (tag : Nat) (c : Call) : (s.putCall tag c).call? tag = some c :=
  Table.get?_put_self _ _ _

theorem call_putCall_ne (s : State) (tag : Nat) (c : Call) (j : Nat) (h : j ≠ tag) :
    (s.putCall tag c).call? j = s.call? j := Table.get?_put_ne _ _ h

@[simp] theorem account_putAccount_self (s : State) (k : Nat) (a : Account) : (s.putAccount k a).account? k = some a :=
  Table.get?_put_self _ _ _

theorem account_putAccount_ne (s : State) (k : Nat) (a : Account) (j : Nat) (h : j ≠ k) :
    (s.putAccount k a).account? j = s.account? j := Table.get?_put_ne _ _ h

@[simp] theorem tariff_putTariff_self (s : State) (c : Nat) (t : TariffClass) : (s.putTariff c t).tariff? c = some t :=
  Table.get?_put_self _ _ _

theorem tariff_putTariff_ne (s : State) (c : Nat) (t : TariffClass) (j : Nat) (h : j ≠ c) :
    (s.putTariff c t).tariff? j = s.tariff? j := Table.get?_put_ne _ _ h

theorem group_eraseGroup_ne (s : State) (g j : Nat) (h : j ≠ g) : (s.eraseGroup g).group? j = s.group? j :=
  Table.get?_erase_ne _ h

theorem call_eraseCall_ne (s : State) (tag j : Nat) (h : j ≠ tag) : (s.eraseCall tag).call? j = s.call? j :=
  Table.get?_erase_ne _ h

@[simp] theorem circuit_setCircuits (s : State) (t : Table Circuit) (j : Nat) : (s.setCircuits t).circuit? j = t.get? j := rfl

@[simp] theorem account_setAccounts (s : State) (t : Table Account) (j : Nat) : (s.setAccounts t).account? j = t.get? j := rfl

@[simp] theorem now_setTime (s : State) (t : Tmb) : (s.setTime t).now = t.now := rfl

end Sys2Proof.Machine.State
end

