-- ==== Sys2Proof/Laws/Engine.lean ====
section
/-! SUPPORT. What the advisory queue and the request engine do, once: an offer changes two fields of LIF, and a served request leaves
the block's state with the frame gone and the reply joined. -/

namespace Sys2Proof.Machine

/-! ### Offers -/

/-- An offer changes the advisory queue and ADVISORY_LOST alone. -/
theorem Lif.offer_eq (l : Lif) (a : Advisory) :
    l.offer a = { l with advisories := (l.offer a).advisories, advisoryLost := (l.offer a).advisoryLost } := by
  simp only [Lif.offer, Lif.enqueue, Lif.addAdvisory]
  split
  · rfl
  · split <;> (repeat' split) <;> rfl

/-- An offer does not read the request and reply queues. -/
theorem Lif.offer_withQueues (l : Lif) (a : Advisory) (rq rp : List Frame) :
    Lif.offer { l with requests := rq, replies := rp } a = { l.offer a with requests := rq, replies := rp } := by
  simp only [Lif.offer, Lif.enqueue, Lif.addAdvisory]
  split
  · rfl
  · split <;> (repeat' split) <;> rfl

/-- Offers in order do not read the request and reply queues. -/
theorem foldl_offer_withQueues (as : List Advisory) (l : Lif) (rq rp : List Frame) :
    as.foldl Lif.offer { l with requests := rq, replies := rp } =
      { as.foldl Lif.offer l with requests := rq, replies := rp } := by
  induction as generalizing l with
  | nil => rfl
  | cons a as ih => simp only [List.foldl_cons, Lif.offer_withQueues, ih]

/-- Offers in order change the advisory queue and ADVISORY_LOST alone. -/
theorem foldl_offer_eq (as : List Advisory) (l : Lif) :
    as.foldl Lif.offer l =
      { l with
        advisories := (as.foldl Lif.offer l).advisories, advisoryLost := (as.foldl Lif.offer l).advisoryLost } := by
  induction as generalizing l with
  | nil => rfl
  | cons a as ih =>
    simp only [List.foldl_cons]
    rw [ih (l.offer a), Lif.offer_eq l a]

/-- Offers in order leave the request queue as it was. -/
@[simp] theorem foldl_offer_requests (as : List Advisory) (l : Lif) :
    (as.foldl Lif.offer l).requests = l.requests := by rw [foldl_offer_eq]

/-- Offers in order leave the reply queue as it was. -/
@[simp] theorem foldl_offer_replies (as : List Advisory) (l : Lif) :
    (as.foldl Lif.offer l).replies = l.replies := by rw [foldl_offer_eq]

/-! ### The engine -/

/-- The engine takes a frame exactly when the conditions a reader gives hold. -/
theorem takes_iff (s : State) (kind number : Byte) (body : List Byte) :
    s.lif.takes { kind := kind, number := number, body := body } = true ↔ Takes s kind number body := by
  have h8 : Config.replyCapacity = 8 := rfl
  simp only [Lif.takes, Lif.engineReady, Takes, Bool.and_eq_true, decide_eq_true_eq, Option.isNone_iff_eq_none, h8, and_assoc]

/-- Serving a frame that the engine takes. -/
theorem serve_of_takes {s : State} {kind number : Byte} {body : List Byte} (h : Takes s kind number body)
    (handle : List Byte → State → Answer) :
    serve kind number body handle s = .next (completed kind number (handle body s.popRequest)) := by
  rw [serve, if_pos ((takes_iff ..).mpr h)]

/-- A frame that is not the engine's to take changes nothing. -/
theorem serve_of_not_takes {s : State} {kind number : Byte} {body : List Byte} (h : ¬ Takes s kind number body)
    (handle : List Byte → State → Answer) : serve kind number body handle s = .next s := by
  rw [serve, if_neg (fun e => h ((takes_iff ..).mp e))]

/-- Serving a frame that the engine takes, by a handler that finds the laws kept. -/
theorem serveLaw_of_takes {s : State} {kind number : Byte} {body : List Byte} (h : Takes s kind number body)
    {handle : List Byte → State → Option Answer} {a : Answer} (ha : handle body s.popRequest = some a) :
    serveLaw kind number body handle s = .next (completed kind number a) := by
  rw [serveLaw, if_pos ((takes_iff ..).mpr h), ha]

/-- A frame that is not the engine's to take changes nothing. -/
theorem serveLaw_of_not_takes {s : State} {kind number : Byte} {body : List Byte} (h : ¬ Takes s kind number body)
    (handle : List Byte → State → Option Answer) : serveLaw kind number body handle s = .next s := by
  rw [serveLaw, if_neg (fun e => h ((takes_iff ..).mp e))]

/-- The reply's summary byte is that of the state the block left, whatever joins the reply queue. -/
@[simp] theorem summaryByte_reply (t : State) (kind number : Byte) (fields : List Byte) :
    (t.reply kind number fields).summaryByte = t.summaryByte := rfl

/-- A completed request whose block offered advisories is served as a reader says. -/
theorem served_completed {s t : State} {offered : List Advisory} (kind number : Byte) (fields : List Byte)
    (h : t.lif = offered.foldl Lif.offer s.popRequest.lif) :
    Served s (completed kind number (t, fields)) kind number offered fields := by
  have := foldl_offer_withQueues offered s.lif s.lif.requests.tail s.lif.replies
  simp only [Served, completed, State.reply_lif, replyKind, summaryByte_reply, h, State.popRequest_lif]
  rw [this]

/-- A request that its block refuses is refused as a reader says. -/
theorem refused_of_serve {s : State} {kind number : Byte} {body fields : List Byte} (h : Takes s kind number body)
    {handle : List Byte → State → Answer} (he : exec (requestCommand kind number body) s = serve kind number body handle s)
    (ha : handle body s.popRequest = (s.popRequest, fields)) : Refused s kind number body fields := by
  refine ⟨completed kind number (s.popRequest, fields), ?_, served_completed (offered := []) kind number fields rfl, rfl⟩
  rw [he, serve_of_takes h, ha]

/-- A request that its block refuses, served by a handler that reads records the laws keep together. -/
theorem refused_of_serveLaw {s : State} {kind number : Byte} {body fields : List Byte} (h : Takes s kind number body)
    {handle : List Byte → State → Option Answer}
    (he : exec (requestCommand kind number body) s = serveLaw kind number body handle s)
    (ha : handle body s.popRequest = some (s.popRequest, fields)) : Refused s kind number body fields := by
  refine ⟨completed kind number (s.popRequest, fields), ?_, served_completed (offered := []) kind number fields rfl, rfl⟩
  rw [he, serveLaw_of_takes h ha]

end Sys2Proof.Machine
end

