-- ==== Sys2Proof/Laws/Layout.lean ====
section
/-! SUPPORT. What is laid out is read back: a number, a digit string, a field that may be absent, and a list of numbers, whatever
bytes follow (R182). -/

namespace Sys2Proof.Machine

/-- A number takes the bytes of its width. -/
@[simp] theorem length_putNumber (n v : Nat) : (putNumber n v).length = n := by
  induction n with
  | zero => rfl
  | succ n ih => simp [putNumber, ih]

/-- The value of a byte string begun from a value already read. -/
theorem foldl_valueOf (l : List Byte) (a : Nat) :
    l.foldl (fun v b => v * 256 + b.toNat) a = a * 256 ^ l.length + valueOf l := by
  induction l generalizing a with
  | nil => simp [valueOf]
  | cons b l ih =>
    simp only [valueOf, List.foldl_cons, List.length_cons]
    rw [ih, ih (0 * 256 + b.toNat), Nat.pow_succ]
    have := Nat.mul_assoc a 256 (256 ^ l.length)
    rw [Nat.add_mul, Nat.add_mul, this, Nat.mul_comm 256 (256 ^ l.length)]
    simp [Nat.add_assoc]

/-- The value of the bytes of a number is the number, modulo its width. -/
theorem valueOf_putNumber (n v : Nat) : valueOf (putNumber n v) = v % 256 ^ n := by
  induction n generalizing v with
  | zero => simp [putNumber, valueOf, Nat.mod_one]
  | succ n ih =>
    simp only [putNumber, valueOf, List.foldl_cons, Nat.zero_mul, Nat.zero_add]
    have hm : v % 256 ^ (n + 1) = v % 256 ^ n + 256 ^ n * (v / 256 ^ n % 256) := by
      rw [show 256 ^ (n + 1) = 256 ^ n * 256 from rfl, Nat.mod_mul]
    rw [foldl_valueOf, length_putNumber, ih, BitVec.toNat_ofNat, hm, show (2 : Nat) ^ 8 = 256 from rfl, Nat.mul_comm,
      Nat.add_comm]

/-- A number laid out in n bytes is read back. -/
@[simp] theorem takeNumber_putNumber (n v : Nat) (rest : List Byte) (h : v < 256 ^ n) :
    takeNumber n (putNumber n v ++ rest) = some (v, rest) := by
  have h1 : (putNumber n v ++ rest).take n = putNumber n v := by
    rw [List.take_append, length_putNumber, Nat.sub_self, List.take_zero, List.append_nil]
    exact List.take_of_length_le (Nat.le_of_eq (length_putNumber ..))
  have h2 : (putNumber n v ++ rest).drop n = rest := by
    rw [List.drop_append, length_putNumber, Nat.sub_self, List.drop_zero]
    rw [List.drop_of_length_le (Nat.le_of_eq (length_putNumber ..)), List.nil_append]
  rw [takeNumber, if_pos (by simp), h1, h2, valueOf_putNumber, Nat.mod_eq_of_lt h]

/-- A field that may be absent is read back. -/
theorem takeOptional_putOptional (n : Nat) (o : Option Nat) (rest : List Byte) (h : ∀ v, o = some v → v < 256 ^ n) :
    takeOptional n (putOptional (putNumber n) o ++ rest) = some (o, rest) := by
  cases o with
  | none => rfl
  | some v =>
    have : takeOptional n (1 :: (putNumber n v ++ rest)) =
        (takeNumber n (putNumber n v ++ rest)).map (fun r => (some r.1, r.2)) := rfl
    rw [putOptional, List.cons_append, this, takeNumber_putNumber n v rest (h v rfl)]
    rfl

/-- A list of numbers is read back. -/
theorem takeNumbers_flatMap (n : Nat) (l : List Nat) (rest : List Byte) (h : ∀ v ∈ l, v < 256 ^ n) :
    takeNumbers n l.length (l.flatMap (putNumber n) ++ rest) = some (l, rest) := by
  induction l with
  | nil => rfl
  | cons a l ih =>
    have ha := takeNumber_putNumber n a (l.flatMap (putNumber n) ++ rest) (h a (by simp))
    have hl := ih (fun v hv => h v (by simp [hv]))
    simp only [List.length_cons, List.flatMap_cons, List.append_assoc, takeNumbers]
    rw [ha]
    simp only [Option.bind_eq_bind, Option.bind_some, hl]
    rfl

/-- Packed digits take half as many bytes, rounded up. -/
@[simp] theorem length_packDigits (ds : Digits) : (packDigits ds).length = packedLength ds.length := by
  induction ds using packDigits.induct with
  | case1 => rfl
  | case2 a => simp [packDigits, packedLength]
  | case3 a b rest ih =>
    simp only [packDigits, List.length_cons, ih, packedLength]
    omega

/-- The four-bit values of packed digits are the digits, with the padding of an odd count after them. -/
theorem take_nibbles_packDigits (ds : Digits) (h : ∀ d ∈ ds, d ≤ 9) : (nibbles (packDigits ds)).take ds.length = ds := by
  induction ds using packDigits.induct with
  | case1 => rfl
  | case2 a =>
    have ha : a ≤ 9 := h a (by simp)
    have h1 : a * 16 % 256 / 16 = a := by omega
    simp [packDigits, nibbles, h1]
  | case3 a b rest ih =>
    have ha : a ≤ 9 := h a (by simp)
    have hb : b ≤ 9 := h b (by simp)
    have h1 : (a * 16 + b) % 256 / 16 = a := by omega
    have h2 : (a * 16 + b) % 256 % 16 = b := by omega
    have := ih (fun d hd => h d (by simp [hd]))
    simp only [packDigits, nibbles, List.length_cons, List.take_succ_cons, BitVec.toNat_ofNat]
    rw [show (2 : Nat) ^ 8 = 256 from rfl, h1, h2, this]

/-- A digit string is read back. -/
@[simp] theorem takeDigits_putDigits (ds : Digits) (rest : List Byte) (hl : ds.length ≤ 255) (h : ∀ d ∈ ds, d ≤ 9) :
    takeDigits (putDigits ds ++ rest) = some (ds, rest) := by
  have hc : (BitVec.ofNat 8 ds.length : Byte).toNat = ds.length := by
    rw [BitVec.toNat_ofNat]; exact Nat.mod_eq_of_lt (by omega)
  have hp : (packDigits ds ++ rest).take (packedLength ds.length) = packDigits ds := by
    rw [List.take_append, length_packDigits, Nat.sub_self, List.take_zero, List.append_nil]
    exact List.take_of_length_le (Nat.le_of_eq (length_packDigits ..))
  have hd : (packDigits ds ++ rest).drop (packedLength ds.length) = rest := by
    rw [List.drop_append, length_packDigits, Nat.sub_self, List.drop_zero]
    rw [List.drop_of_length_le (Nat.le_of_eq (length_packDigits ..)), List.nil_append]
  simp only [putDigits, List.cons_append, takeDigits, hc]
  rw [if_pos (by simp), hp, hd, take_nibbles_packDigits ds h]

end Sys2Proof.Machine
end

