-- ==== Sys2Proof/Laws/Lengths.lean ====
section
/-! SUPPORT. When a body is too short for its kind (R172): for each reader, it reads nothing exactly when the body has fewer bytes than
the fields of the kind take. -/

namespace Sys2Proof.Machine

/-! ### One field -/

/-- A number is not read exactly when fewer bytes are left than it takes. -/
theorem takeNumber_eq_none (n : Nat) (body : List Byte) : takeNumber n body = none ↔ body.length < n := by
  simp only [takeNumber]; split <;> simp_all

/-- A number is read when its bytes are there. -/
theorem takeNumber_of_le {n : Nat} {body : List Byte} (h : n ≤ body.length) :
    takeNumber n body = some (valueOf (body.take n), body.drop n) := by rw [takeNumber, if_pos h]

/-- A reader that begins with a number reads nothing when the number, or what follows it, is not there. -/
theorem bind_takeNumber_none {β : Type} (n : Nat) (body : List Byte) (f : Nat × List Byte → Option β) :
    (takeNumber n body).bind f = none ↔ body.length < n ∨ f (valueOf (body.take n), body.drop n) = none := by
  by_cases h : n ≤ body.length
  · rw [takeNumber_of_le h]; simp; omega
  · rw [takeNumber, if_neg h]; simp; omega

/-- A reader that goes on with a number at place p needs the bytes of the number and those of what follows it. -/
theorem number_then_none {β : Type} {n q : Nat} {p : Nat} {body : List Byte} {f : Nat × List Byte → Option β}
    (fits : p + n ≤ q) (h : ∀ v, f (v, body.drop (p + n)) = none ↔ body.length < q) :
    (takeNumber n (body.drop p)).bind f = none ↔ body.length < q := by
  rw [bind_takeNumber_none, List.drop_drop, h, List.length_drop]; omega

/-- A reader that begins with a digit string reads nothing when the string, or what follows it, is not there. -/
theorem bind_takeDigits_none {β : Type} (body : List Byte) (f : Digits × List Byte → Option β) :
    (takeDigits body).bind f = none ↔
      body.length < digitsSize body 0 ∨
        f ((nibbles ((body.drop 1).take (digitsSize body 0 - 1))).take ((body[0]?).getD 0).toNat,
          body.drop (digitsSize body 0)) = none := by
  cases body with
  | nil => simp [takeDigits, digitsSize]
  | cons b rest =>
    have hs : digitsSize (b :: rest) 0 = packedLength b.toNat + 1 := by simp [digitsSize, packedLength]; omega
    by_cases h : packedLength b.toNat ≤ rest.length
    · have hn : ¬ (b :: rest).length < packedLength b.toNat + 1 := by rw [List.length_cons]; omega
      rw [hs, or_iff_right hn, takeDigits, if_pos h]
      rfl
    · have hn : (b :: rest).length < packedLength b.toNat + 1 := by rw [List.length_cons]; omega
      rw [hs, takeDigits, if_neg h]
      exact iff_of_true rfl (Or.inl hn)

/-- A digit string is not read exactly when fewer bytes are left than it announces. -/
theorem takeDigits_eq_none (body : List Byte) : takeDigits body = none ↔ body.length < digitsSize body 0 := by
  have := bind_takeDigits_none body (fun r => some r)
  simpa using this

/-- Where the bytes of a digit string lie. -/
theorem digitsSize_drop (body : List Byte) (n k : Nat) : digitsSize (body.drop n) k = digitsSize body (n + k) := by
  simp [digitsSize]

/-- A field that may be absent is not read exactly when its presence byte, or the field it announces, is not there. -/
theorem bind_takeOptional_none {β : Type} (n : Nat) (body : List Byte) (f : Option Nat × List Byte → Option β) :
    (takeOptional n body).bind f = none ↔
      body.length < 1 + (if (body[0]?).getD 0 = 0 then 0 else n) ∨
        f (if (body[0]?).getD 0 = 0 then (none, body.drop 1)
          else (some (valueOf ((body.drop 1).take n)), body.drop (1 + n))) = none := by
  cases body with
  | nil => simp [takeOptional]
  | cons b rest =>
    by_cases h : b = 0#8
    · simp [takeOptional, h]
    · by_cases hl : n ≤ rest.length
      · simp [takeOptional, h, takeNumber_of_le hl, Nat.add_comm 1 n]
        omega
      · have : takeNumber n rest = none := (takeNumber_eq_none ..).mpr (by omega)
        simp [takeOptional, h, this]
        omega

/-- A list of numbers is not read exactly when fewer bytes are left than it takes. -/
theorem takeNumbers_eq_none (n k : Nat) (body : List Byte) : takeNumbers n k body = none ↔ body.length < n * k := by
  induction k generalizing body with
  | zero => simp [takeNumbers]
  | succ k ih =>
    have h := bind_takeNumber_none n body (fun r => (takeNumbers n k r.2).bind (fun q => some (r.1 :: q.1, q.2)))
    have hb : ∀ b : List Byte,
        (takeNumbers n k b).bind (fun q => some (valueOf (body.take n) :: q.1, q.2)) = none ↔ takeNumbers n k b = none := by
      intro b; cases takeNumbers n k b <;> simp
    simp only [takeNumbers, Option.bind_eq_bind, Option.pure_def] at *
    rw [h, hb, ih, List.length_drop, Nat.mul_succ]
    omega

/-- What is left behind a list of numbers. -/
theorem takeNumbers_rest {n k : Nat} {body : List Byte} {r : List Nat × List Byte} (h : takeNumbers n k body = some r) :
    r.2 = body.drop (n * k) := by
  induction k generalizing body r with
  | zero => simp only [takeNumbers, Option.some.injEq] at h; simp [← h]
  | succ k ih =>
    by_cases hn : n ≤ body.length
    · simp only [takeNumbers, Option.bind_eq_bind, takeNumber_of_le hn, Option.bind_some, Option.pure_def] at h
      cases hq : takeNumbers n k (body.drop n) with
      | none => rw [hq] at h; simp at h
      | some q =>
        rw [hq] at h
        simp only [Option.bind_some, Option.some.injEq] at h
        rw [← h]
        simp only [ih hq, List.drop_drop, Nat.mul_succ, Nat.add_comm]
    · have : takeNumber n body = none := (takeNumber_eq_none ..).mpr (by omega)
      simp [takeNumbers, this] at h

/-! ### The bodies of the requests -/

/-- SET_PREFIX (R3; a cut note, log 10). -/
theorem readSetPrefix_eq_none (body : List Byte) : readSetPrefix body = none ↔
    body.length < digitsSize body 0 + 2 ∨
      (digitsSize body 0 + 2 < body.length ∧ body[digitsSize body 0 + 2]? ≠ some 0 ∧
        body.length < digitsSize body 0 + 5) := by
  have note : ∀ b : List Byte, takeNote b = none ↔ (0 < b.length ∧ b[0]? ≠ some 0 ∧ b.length < 3) := by
    intro b
    cases b with
    | nil => simp [takeNote]
    | cons c rest =>
      by_cases h : c = 0#8
      · simp [takeNote, takeOptional, h]
      · simp [takeNote, takeOptional, h, takeNumber_eq_none]
        omega
  have bindNote : ∀ (b : List Byte) (f : Option Nat → Digits × Nat × Option Nat),
      ((takeNote b).bind fun x => some (f x)) = none ↔ takeNote b = none := by
    intro b f; cases takeNote b <;> simp
  simp only [readSetPrefix, Option.bind_eq_bind, bind_takeNumber_none, bind_takeDigits_none, Option.pure_def, bindNote, note,
    List.length_drop, List.drop_drop, List.getElem?_drop, Nat.add_zero]
  constructor
  · rintro (h | h | ⟨h1, h2, h3⟩)
    · omega
    · omega
    · exact Or.inr ⟨by omega, h2, by omega⟩
  · rintro (h | ⟨h1, h2, h3⟩)
    · omega
    · exact Or.inr (Or.inr ⟨by omega, h2, by omega⟩)

/-- SET_PLAN (R8). -/
theorem readSetPlan_eq_none (body : List Byte) : readSetPlan body = none ↔
    body.length < 6 + 2 * ((body[2]?).getD 0).toNat +
      (if (body[4 + 2 * ((body[2]?).getD 0).toNat]?).getD 0 = 0 then 0 else 3) := by
  have count : valueOf ((body.drop 2).take 1) = ((body[2]?).getD 0).toNat := by
    cases h : body.drop 2 with
    | nil =>
      have : body[2]? = none := by rw [← List.getElem?_drop (i := 2) (j := 0), h]; rfl
      simp [this, valueOf]
    | cons b rest =>
      have : body[2]? = some b := by rw [← List.getElem?_drop (i := 2) (j := 0), h]; rfl
      simp [this, valueOf]
  have bindNumbers : ∀ (k : Nat) (b : List Byte) (f : List Nat × List Byte → Option PlanFields) (P : Prop),
      (∀ l, f (l, b.drop (2 * k)) = none ↔ P) →
      ((takeNumbers 2 k b).bind f = none ↔ b.length < 2 * k ∨ P) := by
    intro k b f P hP
    cases h : takeNumbers 2 k b with
    | none => simp [(takeNumbers_eq_none ..).mp h]
    | some r =>
      have hlen : ¬ b.length < 2 * k := fun c => by rw [(takeNumbers_eq_none ..).mpr c] at h; cases h
      obtain ⟨l, rest⟩ := r
      have hr : rest = b.drop (2 * k) := takeNumbers_rest h
      subst hr
      simp [hP, hlen]
  simp only [readSetPlan, Option.bind_eq_bind, Option.pure_def, bind_takeNumber_none, count]
  rw [bindNumbers (P := body.length < 6 + 2 * ((body[2]?).getD 0).toNat +
      (if (body[4 + 2 * ((body[2]?).getD 0).toNat]?).getD 0 = 0 then 0 else 3))]
  · simp only [List.length_drop]
    split <;> omega
  · intro l
    simp only [bind_takeNumber_none, bind_takeOptional_none, List.getElem?_drop, List.length_drop, List.drop_drop,
      Nat.add_zero]
    have e : 3 + 2 * ((body[2]?).getD 0).toNat + 1 = 4 + 2 * ((body[2]?).getD 0).toNat := by omega
    rw [e]
    split <;> simp <;> omega

/-- SET_GROUP (R19). -/
theorem readSetGroup_eq_none (body : List Byte) : readSetGroup body = none ↔ body.length < 36 + digitsSize body 36 := by
  unfold readSetGroup
  change (takeNumber 2 (body.drop 0)).bind _ = none ↔ _
  generalize hq : 36 + digitsSize body 36 = q
  iterate 24
    refine number_then_none (by omega) fun _ => ?_
    dsimp only [Nat.reduceAdd]
  change (takeDigits (body.drop 36)).bind _ = none ↔ _
  rw [bind_takeDigits_none, digitsSize_drop, List.length_drop, Nat.add_zero, ← hq]
  refine (or_iff_left (Option.some_ne_none _)).trans ?_
  have : 1 ≤ digitsSize body 36 := by simp only [digitsSize]; omega
  omega

/-- SET_CARRIER (R145). -/
theorem readSetCarrier_eq_none (body : List Byte) : readSetCarrier body = none ↔ body.length < 19 := by
  simp only [readSetCarrier, Option.bind_eq_bind, bind_takeNumber_none, List.length_drop, List.drop_drop]
  simp only [Option.pure_def, reduceCtorEq, or_false]
  omega

/-- LOAD_TARIFF (R160). -/
theorem readLoadTariff_eq_none (body : List Byte) : readLoadTariff body = none ↔ body.length < 8 := by
  simp only [readLoadTariff, Option.bind_eq_bind, bind_takeNumber_none, List.length_drop, List.drop_drop]
  simp only [Option.pure_def, reduceCtorEq, or_false]
  omega

/-- SCHEDULE_TARIFF (R161). -/
theorem readScheduleTariff_eq_none (body : List Byte) : readScheduleTariff body = none ↔ body.length < 5 := by
  simp only [readScheduleTariff, Option.bind_eq_bind, bind_takeNumber_none, List.length_drop]
  simp only [Option.pure_def, reduceCtorEq, or_false]
  omega

/-- DEL_GAP, and the key of SET_GAP (R113, R115; log 19). -/
theorem takeGapKey_eq_none (body : List Byte) : takeGapKey body = none ↔ body.length < gapKeySize body := by
  cases body with
  | nil => simp [takeGapKey, takeNumber, gapKeySize]
  | cons b rest =>
    have h1 : takeNumber 1 (b :: rest) = some (b.toNat, rest) := by simp [takeNumber, valueOf]
    have hd : digitsSize (b :: rest) 1 = digitsSize rest 0 := by simp [digitsSize]
    have digits : ∀ f : Digits × List Byte → RawKey × List Byte,
        ((takeDigits rest).bind fun r => some (f r)) = none ↔ rest.length < digitsSize rest 0 := by
      intro f; rw [bind_takeDigits_none]; simp
    have number : ∀ f : Nat × List Byte → RawKey × List Byte,
        ((takeNumber 2 rest).bind fun r => some (f r)) = none ↔ rest.length < 2 := by
      intro f; rw [bind_takeNumber_none]; simp
    simp only [takeGapKey, h1, Option.bind_eq_bind, Option.bind_some, Option.pure_def, gapKeySize, List.head?_cons,
      Option.some.injEq, hd, List.length_cons]
    by_cases h0 : b = 0
    · rw [if_pos (by rw [h0]; rfl), if_pos h0, digits]
      omega
    · have hn : b.toNat ≠ 0 := fun c => h0 (BitVec.eq_of_toNat_eq c)
      rw [if_neg hn, if_neg h0]
      by_cases hb : b = 1
      · rw [if_pos (by rw [hb]; rfl), if_pos hb, number]
        omega
      · have hn1 : b.toNat ≠ 1 := fun c => hb (BitVec.eq_of_toNat_eq c)
        rw [if_neg hn1, if_neg hb]
        simp

/-- What a gap key that is read leaves of the body. -/
theorem takeGapKey_rest {body rest : List Byte} {raw : RawKey} (h : takeGapKey body = some (raw, rest)) :
    rest = body.drop (gapKeySize body) := by
  cases body with
  | nil => simp [takeGapKey, takeNumber] at h
  | cons b tail =>
    have h1 : takeNumber 1 (b :: tail) = some (b.toNat, tail) := by simp [takeNumber, valueOf]
    have hd : digitsSize (b :: tail) 1 = digitsSize tail 0 := by simp [digitsSize]
    simp only [takeGapKey, h1, Option.bind_eq_bind, Option.bind_some, Option.pure_def] at h
    simp only [gapKeySize, List.head?_cons, Option.some.injEq, hd]
    by_cases h0 : b = 0
    · rw [if_pos (by rw [h0]; rfl)] at h
      rw [if_pos h0]
      cases tail with
      | nil => simp [takeDigits] at h
      | cons c more =>
        have hs : digitsSize (c :: more) 0 = packedLength c.toNat + 1 := by simp [digitsSize, packedLength]; omega
        simp only [takeDigits] at h
        split at h
        · simp only [Option.bind_some, Option.some.injEq, Prod.mk.injEq] at h
          rw [← h.2, hs, Nat.add_comm 1, List.drop_succ_cons, List.drop_succ_cons]
        · simp at h
    · have hn : b.toNat ≠ 0 := fun c => h0 (BitVec.eq_of_toNat_eq c)
      rw [if_neg hn] at h
      rw [if_neg h0]
      by_cases hb : b = 1
      · rw [if_pos (by rw [hb]; rfl)] at h
        rw [if_pos hb]
        simp only [takeNumber] at h
        split at h
        · simp only [Option.bind_some, Option.some.injEq, Prod.mk.injEq] at h
          rw [← h.2]; rfl
        · simp at h
      · have hn1 : b.toNat ≠ 1 := fun c => hb (BitVec.eq_of_toNat_eq c)
        rw [if_neg hn1, Option.some.injEq, Prod.mk.injEq] at h
        rw [if_neg hb, ← h.2]; rfl

/-- SET_GAP (R113). -/
theorem readSetGap_eq_none (body : List Byte) : readSetGap body = none ↔
    body.length < gapKeySize body + 3 + (if body[gapKeySize body + 2]? = some 1 then 3 else 0) := by
  cases h : takeGapKey body with
  | none =>
    have := (takeGapKey_eq_none body).mp h
    simp only [readSetGap, h, Option.bind_eq_bind, Option.bind_none, true_iff]
    omega
  | some r =>
    obtain ⟨raw, rest⟩ := r
    have hr := takeGapKey_rest h
    have hl : ¬ body.length < gapKeySize body := fun c => by rw [(takeGapKey_eq_none ..).mpr c] at h; cases h
    have flag : ∀ b : List Byte, 1 ≤ b.length → (valueOf (b.take 1) = 1 ↔ b[0]? = some 1) := by
      intro b hb
      cases b with
      | nil => simp at hb
      | cons c more =>
        simp only [List.take_succ_cons, List.take_zero, valueOf, List.foldl_cons, List.foldl_nil, Nat.zero_mul, Nat.zero_add,
          List.getElem?_cons_zero, Option.some.injEq]
        exact ⟨fun e => BitVec.eq_of_toNat_eq e, fun e => by rw [e]; rfl⟩
    subst hr
    simp only [readSetGap, h, Option.bind_eq_bind, Option.bind_some, bind_takeNumber_none, List.length_drop, List.drop_drop]
    by_cases hf : gapKeySize body + 2 < body.length
    · have hflag := flag (body.drop (gapKeySize body + 2)) (by simp; omega)
      rw [List.getElem?_drop, Nat.add_zero] at hflag
      by_cases h1 : body[gapKeySize body + 2]? = some 1
      · rw [if_pos (hflag.mpr h1), if_pos h1, bind_takeNumber_none]
        simp only [List.length_drop, Option.pure_def, reduceCtorEq, or_false]
        omega
      · rw [if_neg (fun c => h1 (hflag.mp c)), if_neg h1]
        simp only [Option.pure_def, reduceCtorEq, or_false]
        omega
    · constructor
      · intro _; omega
      · intro _; omega

/-- SEEK (R57). -/
theorem readSeek_eq_none (body : List Byte) : readSeek body = none ↔ body.length < 6 + digitsSize body 4 := by
  simp only [readSeek, Option.bind_eq_bind, bind_takeNumber_none, bind_takeDigits_none, List.length_drop, digitsSize_drop,
    List.drop_drop]
  simp
  omega

/-- FAIL (R79). -/
theorem readFail_eq_none (body : List Byte) : readFail body = none ↔ body.length < 6 := by
  simp only [readFail, Option.bind_eq_bind, bind_takeNumber_none, List.length_drop, List.drop_drop]
  simp
  omega

/-- SERVICE (R34). -/
theorem readService_eq_none (body : List Byte) : readService body = none ↔ body.length < 3 := by
  simp only [readService, Option.bind_eq_bind, bind_takeNumber_none, List.length_drop]
  simp
  omega

/-- READ_PREFIX (R5). -/
theorem readReadPrefix_eq_none (body : List Byte) : readReadPrefix body = none ↔ body.length < 1 + digitsSize body 1 := by
  simp only [readReadPrefix, Option.bind_eq_bind, bind_takeNumber_none, bind_takeDigits_none, List.length_drop, digitsSize_drop,
    List.drop_drop]
  simp only [Option.pure_def, reduceCtorEq, or_false, Nat.add_zero]
  omega

end Sys2Proof.Machine
end

