-- ==== Sys2Proof/Laws/Records.lean ====
section
/-! SUPPORT. Writing a record twice, changing a record that may be missing, and the shared operations over groups and calls: what each
leaves to be read, once. -/

namespace Sys2Proof.Machine

/-- Of two writes at one key the later stands. -/
theorem Table.put_put {α : Type} (t : Table α) (k : Nat) (v w : α) : (t.put k v).put k w = t.put k w := by
  induction t with
  | nil => simp [Table.put]
  | cons e t ih =>
    obtain ⟨k', v'⟩ := e
    simp only [Table.put]
    split
    · simp [Table.put]
    · split
      · simp [Table.put]
      · rename_i h1 h2
        simp [Table.put, h1, h2, ih]

namespace State

/-! ### Groups -/

/-- Reading a group after a write of one. -/
theorem group_putGroup (s : State) (g j : Nat) (grp : Group) :
    (s.putGroup g grp).group? j = if j = g then some grp else s.group? j := Table.get?_put _ _ _ _

/-- Of two writes of a group the later stands. -/
@[simp] theorem putGroup_putGroup (s : State) (g : Nat) (a b : Group) : (s.putGroup g a).putGroup g b = s.putGroup g b := by
  simp only [putGroup, Table.put_put]

/-- Changing a configured group is writing it. -/
theorem modifyGroup_of_group {s : State} {g : Nat} {grp : Group} (h : s.group? g = some grp) (f : Group → Group) :
    s.modifyGroup g f = s.putGroup g (f grp) := by rw [modifyGroup, h]

/-- Changing a group that is not configured changes nothing. -/
theorem modifyGroup_of_none {s : State} {g : Nat} (h : s.group? g = none) (f : Group → Group) : s.modifyGroup g f = s := by
  rw [modifyGroup, h]

/-- Reading a group after a change of one. -/
theorem group_modifyGroup (s : State) (g j : Nat) (f : Group → Group) :
    (s.modifyGroup g f).group? j = (s.group? j).map (fun grp => if j = g then f grp else grp) := by
  cases h : s.group? g with
  | none =>
    rw [modifyGroup_of_none h]
    by_cases hj : j = g
    · subst hj; simp [h]
    · simp [hj]
  | some grp =>
    rw [modifyGroup_of_group h, group_putGroup]
    by_cases hj : j = g
    · subst hj; simp [h]
    · simp [hj]

/-- A change of a group is a change of the group table alone. -/
theorem modifyGroup_eq (s : State) (g : Nat) (f : Group → Group) :
    s.modifyGroup g f = { s with tgm := { s.tgm with groups := (s.modifyGroup g f).tgm.groups } } := by
  rw [modifyGroup]; split <;> rfl

/-! ### Calls -/

/-- Reading a call after a write of one. -/
theorem call_putCall (s : State) (tag j : Nat) (c : Call) :
    (s.putCall tag c).call? j = if j = tag then some c else s.call? j := Table.get?_put _ _ _ _

/-- Of two writes of a call the later stands. -/
@[simp] theorem putCall_putCall (s : State) (tag : Nat) (a b : Call) : (s.putCall tag a).putCall tag b = s.putCall tag b := by
  simp only [putCall, Table.put_put]

/-- Changing a live call is writing it. -/
theorem modifyCall_of_call {s : State} {tag : Nat} {c : Call} (h : s.call? tag = some c) (f : Call → Call) :
    s.modifyCall tag f = s.putCall tag (f c) := by rw [modifyCall, h]

/-- Changing a call that is not live changes nothing. -/
theorem modifyCall_of_none {s : State} {tag : Nat} (h : s.call? tag = none) (f : Call → Call) : s.modifyCall tag f = s := by
  rw [modifyCall, h]

/-- Reading a call after a change of one. -/
theorem call_modifyCall (s : State) (tag j : Nat) (f : Call → Call) :
    (s.modifyCall tag f).call? j = (s.call? j).map (fun c => if j = tag then f c else c) := by
  cases h : s.call? tag with
  | none =>
    rw [modifyCall_of_none h]
    by_cases hj : j = tag
    · subst hj; simp [h]
    · simp [hj]
  | some c =>
    rw [modifyCall_of_call h, call_putCall]
    by_cases hj : j = tag
    · subst hj; simp [h]
    · simp [hj]

/-- A change of a call is a change of the call table alone. -/
theorem modifyCall_eq (s : State) (tag : Nat) (f : Call → Call) :
    s.modifyCall tag f = { s with ctb := (s.modifyCall tag f).ctb } := by
  rw [modifyCall]; split <;> rfl

@[simp] theorem modifyCall_lif (s : State) (tag : Nat) (f : Call → Call) : (s.modifyCall tag f).lif = s.lif := by
  rw [modifyCall_eq]
@[simp] theorem modifyCall_rsl (s : State) (tag : Nat) (f : Call → Call) : (s.modifyCall tag f).rsl = s.rsl := by
  rw [modifyCall_eq]
@[simp] theorem modifyCall_tgm (s : State) (tag : Nat) (f : Call → Call) : (s.modifyCall tag f).tgm = s.tgm := by
  rw [modifyCall_eq]
@[simp] theorem modifyCall_chu (s : State) (tag : Nat) (f : Call → Call) : (s.modifyCall tag f).chu = s.chu := by
  rw [modifyCall_eq]
@[simp] theorem modifyCall_gpc (s : State) (tag : Nat) (f : Call → Call) : (s.modifyCall tag f).gpc = s.gpc := by
  rw [modifyCall_eq]
@[simp] theorem modifyCall_tmb (s : State) (tag : Nat) (f : Call → Call) : (s.modifyCall tag f).tmb = s.tmb := by
  rw [modifyCall_eq]
@[simp] theorem modifyCall_pending (s : State) (tag : Nat) (f : Call → Call) : (s.modifyCall tag f).pending = s.pending := by
  rw [modifyCall_eq]
@[simp] theorem modifyCall_freeCounter (s : State) (tag : Nat) (f : Call → Call) :
    (s.modifyCall tag f).freeCounter = s.freeCounter := by rw [modifyCall_eq]
@[simp] theorem modifyCall_group (s : State) (tag : Nat) (f : Call → Call) (g : Nat) :
    (s.modifyCall tag f).group? g = s.group? g := by simp only [group?, modifyCall_tgm]
@[simp] theorem modifyCall_circuit (s : State) (tag : Nat) (f : Call → Call) (i : Nat) :
    (s.modifyCall tag f).circuit? i = s.circuit? i := by simp only [circuit?, modifyCall_tgm]
@[simp] theorem modifyCall_plan (s : State) (tag : Nat) (f : Call → Call) (p : Nat) :
    (s.modifyCall tag f).plan? p = s.plan? p := by simp only [plan?, modifyCall_rsl]
@[simp] theorem modifyCall_account (s : State) (tag : Nat) (f : Call → Call) (k : Nat) :
    (s.modifyCall tag f).account? k = s.account? k := by simp only [account?, modifyCall_chu]
@[simp] theorem modifyCall_tariff (s : State) (tag : Nat) (f : Call → Call) (c : Nat) :
    (s.modifyCall tag f).tariff? c = s.tariff? c := by simp only [tariff?, modifyCall_chu]

/-! ### The raise test -/

/-- Everything the raise test does to a configured group (R41, R49, R51): the level rises to f of the idle count if that is higher,
an entry to level 3 starts the escalation timer, and a change queues STRAIN. -/
theorem raiseTest_of_group {s : State} {g : Nat} {grp : Group} (h : s.group? g = some grp) :
    s.raiseTest g =
      if grp.testedLevel = grp.level then s
      else (s.putGroup g (grp.raisedTo grp.testedLevel s.now)).offer (.strain g grp.testedLevel) := by
  rw [raiseTest, h]

/-! ### The end of a guard, and a release -/

/-- The end of a guard with block-pending set: the circuit goes to BLOCKED, and its group is untouched (R29, R30). -/
theorem endGuard_pending {circ : Circuit} (h : circ.blockPending = true) (s : State) (i : Nat) :
    s.endGuard i circ = s.putCircuit i { circ with state := .blocked, blockPending := false } := by
  rw [endGuard, if_pos h]

/-- The end of a guard without block-pending: the circuit goes to IDLE, and its group's idle count rises (R26, R30). -/
theorem endGuard_idle {circ : Circuit} (h : circ.blockPending = false) (s : State) (i : Nat) :
    s.endGuard i circ = (s.putCircuit i { circ with state := .idle }).modifyGroup circ.owner Group.gainIdle := by
  rw [endGuard, h]; rfl

/-- A release answers a state exactly when the circuit is BUSY and its owner is configured (R29). -/
theorem release_isSome (s : State) (i : Nat) :
    (s.release i).isSome = true ↔
      ∃ circ, s.circuit? i = some circ ∧ (s.group? circ.owner).isSome = true ∧ circ.state.isBusy = true := by
  cases hc : s.circuit? i with
  | none => simp [release, hc]
  | some circ =>
    cases hg : s.group? circ.owner with
    | none => simp [release, hc, hg]
    | some grp =>
      cases hb : circ.state.isBusy with
      | false => simp [release, hc, hg, hb]
      | true => by_cases h0 : grp.config.guardTime = 0 <;> simp [release, hc, hg, hb, h0]

/-! ### The search -/

/-- What a skipped candidate leaves changed is the overflow count of its group (R66). -/
theorem skip_eq (s : State) (g : Nat) (c : Cause) :
    s.skip g c = { s with tgm := { s.tgm with groups := (s.skip g c).tgm.groups } } := by
  rw [skip]
  split
  · exact modifyGroup_eq s g _
  · rfl

end State

/-- A search changes the group table alone (R66, R67). -/
theorem search_eq (plan : Plan) (cls : CallClass) (number : Digits) (order : List Nat) (seen : List Cause) (s t : State)
    (found : Found) (h : search plan cls number order seen s = some (t, found)) :
    t = { s with tgm := { s.tgm with groups := t.tgm.groups } } := by
  induction order generalizing seen s with
  | nil => simp only [search, Option.some.injEq, Prod.mk.injEq] at h; rw [← h.1]
  | cons position rest ih =>
    simp only [search] at h
    split at h
    · exact ih _ _ h
    · rename_i g _
      split at h
      · exact absurd h (by simp)
      · simp only [Option.some.injEq, Prod.mk.injEq] at h; rw [← h.1]
      · rename_i c _
        have := ih _ _ h
        rw [State.skip_eq s g c] at this
        exact this

end Sys2Proof.Machine
end

