-- ==== Sys2Proof/Laws/Restart.lean ====
section
/-! SUPPORT. What each effect of a RESTART does, once, and what the effects of a RESTART never touch. -/

namespace Sys2Proof.Machine.State

/-! ### The RESTART in service -/

@[simp] theorem withServing_serving (s : State) (v : Serving) : (s.withServing v).lif.serving = some v := rfl
@[simp] theorem withServing_lif (s : State) (v : Serving) : (s.withServing v).lif = { s.lif with serving := some v } := rfl
@[simp] theorem withServing_rsl (s : State) (v : Serving) : (s.withServing v).rsl = s.rsl := rfl
@[simp] theorem withServing_tgm (s : State) (v : Serving) : (s.withServing v).tgm = s.tgm := rfl
@[simp] theorem withServing_ctb (s : State) (v : Serving) : (s.withServing v).ctb = s.ctb := rfl
@[simp] theorem withServing_chu (s : State) (v : Serving) : (s.withServing v).chu = s.chu := rfl
@[simp] theorem withServing_gpc (s : State) (v : Serving) : (s.withServing v).gpc = s.gpc := rfl
@[simp] theorem withServing_tmb (s : State) (v : Serving) : (s.withServing v).tmb = s.tmb := rfl
@[simp] theorem withServing_pending (s : State) (v : Serving) : (s.withServing v).pending = s.pending := rfl
@[simp] theorem withServing_freeCounter (s : State) (v : Serving) : (s.withServing v).freeCounter = s.freeCounter := rfl

/-! ### The effects, one by one -/

/-- With no RESTART in service no effect falls. -/
theorem nextEffect_of_none {s : State} (h : s.lif.serving = none) : s.nextEffect = s := by rw [nextEffect, h]

/-- With no effect left none falls. -/
theorem nextEffect_of_done {s : State} {v : Serving} (h : s.lif.serving = some v) (hl : v.left = []) :
    s.nextEffect = s := by
  rw [nextEffect, h]; simp only [hl]

/-- The effect that stands first falls. -/
theorem nextEffect_of_left {s : State} {v : Serving} {e : RestartEffect} {left : List RestartEffect}
    (h : s.lif.serving = some v) (hl : v.left = e :: left) : s.nextEffect = s.takeEffect v e left := by
  rw [nextEffect, h]; simp only [hl]

@[simp] theorem runEffects_zero (s : State) : runEffects 0 s = s := rfl
@[simp] theorem runEffects_succ (n : Nat) (s : State) : runEffects (n + 1) s = runEffects n s.nextEffect := rfl

/-- Effects in two portions are the effects in one. -/
theorem runEffects_add (m n : Nat) (s : State) : runEffects (m + n) s = runEffects n (runEffects m s) := by
  induction m generalizing s with
  | zero => simp
  | succ m ih => rw [Nat.succ_add, runEffects_succ, ih, runEffects_succ]

/-- The AUTO gaps that a RESTART removes by a fall report are counted or not; never more than were there. -/
theorem fallRemovals_le (before after : Table Gap) : fallRemovals before after ≤ autoCount before := by
  rw [fallRemovals]; split <;> omega

/-- A change of level offers advisories and may lift gaps; every other record stands. -/
theorem levelChanged_eq (s : State) (g : Nat) (before after : Group) :
    s.levelChanged g before after =
      { s with
        lif := (s.levelChanged g before after).lif,
        gpc := { s.gpc with gaps := (s.levelChanged g before after).gpc.gaps } } := by
  have ungap : ∀ (e : Nat × Plan) (s : State),
      State.ungapPlan g s e =
        { s with
          lif := (State.ungapPlan g s e).lif, gpc := { s.gpc with gaps := (State.ungapPlan g s e).gpc.gaps } } := by
    intro e s
    simp only [State.ungapPlan]
    (repeat' split) <;> rfl
  have fall : ∀ (ps : List (Nat × Plan)) (s : State),
      ps.foldl (State.ungapPlan g) s =
        { s with
          lif := (ps.foldl (State.ungapPlan g) s).lif,
          gpc := { s.gpc with gaps := (ps.foldl (State.ungapPlan g) s).gpc.gaps } } := by
    intro ps
    induction ps with
    | nil => intro s; rfl
    | cons e ps ih =>
      intro s
      simp only [List.foldl_cons]
      rw [ih (State.ungapPlan g s e), ungap e s]
  simp only [levelChanged]
  split
  · rfl
  · split
    · rw [State.fallReport, fall]
      rfl
    · rfl

/-- The reset of one group changes that group, the gap table and LIF alone. -/
theorem restartGroup_eq (s : State) (g : Nat) :
    s.restartGroup g =
      { s with
        lif := (s.restartGroup g).lif, tgm := { s.tgm with groups := (s.restartGroup g).tgm.groups },
        gpc := { s.gpc with gaps := (s.restartGroup g).gpc.gaps } } := by
  rw [restartGroup]
  split
  · rfl
  · rw [levelChanged_eq]
    rfl

/-- No effect of a RESTART reaches the plans and prefixes, the accounts, tariffs and period, the clock or the queue of commands
(R13, R158, R168). -/
theorem takeEffect_keeps (s : State) (v : Serving) (e : RestartEffect) (left : List RestartEffect) :
    (s.takeEffect v e left).rsl = s.rsl ∧ (s.takeEffect v e left).chu = s.chu ∧ (s.takeEffect v e left).tmb = s.tmb ∧
      (s.takeEffect v e left).pending = s.pending ∧ (s.takeEffect v e left).freeCounter = s.freeCounter := by
  cases e with
  | freeCalls => exact ⟨rfl, rfl, rfl, rfl, rfl⟩
  | resetGroup g =>
    simp only [takeEffect, withServing_rsl, withServing_chu, withServing_tmb, withServing_pending, withServing_freeCounter]
    rw [restartGroup_eq]
    exact ⟨rfl, rfl, rfl, rfl, rfl⟩
  | purgeGaps => exact ⟨rfl, rfl, rfl, rfl, rfl⟩
  | announce => exact ⟨rfl, rfl, rfl, rfl, rfl⟩

/-- The same of the next effect, whatever it is. -/
theorem nextEffect_keeps (s : State) :
    s.nextEffect.rsl = s.rsl ∧ s.nextEffect.chu = s.chu ∧ s.nextEffect.tmb = s.tmb ∧ s.nextEffect.pending = s.pending ∧
      s.nextEffect.freeCounter = s.freeCounter := by
  rw [nextEffect]
  split
  · exact ⟨rfl, rfl, rfl, rfl, rfl⟩
  · split
    · exact ⟨rfl, rfl, rfl, rfl, rfl⟩
    · exact takeEffect_keeps ..

/-- The same of any number of effects. -/
theorem runEffects_keeps (n : Nat) (s : State) :
    (runEffects n s).rsl = s.rsl ∧ (runEffects n s).chu = s.chu ∧ (runEffects n s).tmb = s.tmb ∧
      (runEffects n s).pending = s.pending ∧ (runEffects n s).freeCounter = s.freeCounter := by
  induction n generalizing s with
  | zero => exact ⟨rfl, rfl, rfl, rfl, rfl⟩
  | succ n ih =>
    obtain ⟨h1, h2, h3, h4, h5⟩ := nextEffect_keeps s
    have := ih s.nextEffect
    rw [runEffects_succ]
    rw [h1, h2, h3, h4, h5] at this
    exact this

end Sys2Proof.Machine.State
end

