-- ==== Sys2Proof/WellFormed.lean ====
section
/-! DEFINITION. Which commands can be given: the operand ranges of R170, R181 and the index ranges of the manual. The machine is
total on the others (they name nothing, so nothing occurs). -/

namespace Sys2Proof

/-- A frame's length counts kind, number and body and is at most 1,024, so a body is at most 1,022 bytes (R170, R182). -/
def bodyFits (body : List Byte) : Bool := decide (body.length ≤ 1022)

/-- A tag is 32 bits and not zero (spec/00_scope.md 4.2, R57). -/
def tagInRange (tag : Nat) : Bool := decide (1 ≤ tag) && decide (tag ≤ Config.max32)

/-- Which commands can be given. -/
def Instr.wf : Instr → Bool
  | .setPrefix _ b => bodyFits b
  | .delPrefix _ b => bodyFits b
  | .setPlan _ b => bodyFits b
  | .setGroup _ b => bodyFits b
  | .delGroup _ b => bodyFits b
  | .setCarrier _ b => bodyFits b
  | .delCarrier _ b => bodyFits b
  | .loadTariff _ b => bodyFits b
  | .scheduleTariff _ b => bodyFits b
  | .cancelTariff _ b => bodyFits b
  | .setGap _ b => bodyFits b
  | .delGap _ b => bodyFits b
  | .setAutogap _ b => bodyFits b
  | .setClock _ b => bodyFits b
  | .setPeriod _ b => bodyFits b
  | .seek _ b => bodyFits b
  | .progress _ b => bodyFits b
  | .answer _ b => bodyFits b
  | .fail _ b => bodyFits b
  | .clear _ b => bodyFits b
  | .service _ b => bodyFits b
  | .block _ b => bodyFits b
  | .unblock _ b => bodyFits b
  | .restart _ b => bodyFits b
  | .status _ b => bodyFits b
  | .readPrefix _ b => bodyFits b
  | .readPlan _ b => bodyFits b
  | .readGroup _ b => bodyFits b
  | .readCircuit _ b => bodyFits b
  | .readCall _ b => bodyFits b
  | .readCarrier _ b => bodyFits b
  | .readTariff _ b => bodyFits b
  | .readGaps _ b => bodyFits b
  | .collect _ b => bodyFits b
  | .close _ b => bodyFits b
  | .unknownKind k _ b => !isRequestKind k && bodyFits b
  | .frameReceived cs => !cs.isEmpty
  | .interCharacterTimeout => true
  | .brokenCharacter => true
  | .outlineFrameSend => true
  | .linkResetBegin => true
  | .linkResetEnd => true
  | .powerOn _ _ => true
  | .resetPinAssert => true
  | .resetPinRelease _ _ => true
  | .initComplete => true
  | .guardExpiry c => decide (c < Config.circuitCount)
  | .windowExpiry g => decide (g < Config.groupCount)
  | .escalationExpiry g => decide (g < Config.groupCount)
  | .tsExpiry g => decide (g < Config.groupCount)
  | .tqExpiry g => decide (g < Config.groupCount)
  | .twExpiry g => decide (g < Config.groupCount)
  | .seizureSupervisionExpiry t => tagInRange t
  | .chargeStepExpiry t => tagInRange t
  | .gapDurationExpiry i => decide (i < Config.gapCapacity)
  | .periodTimerExpiry => true
  | .partClockRise => true
  | .startCodeReceived => true
  | .lengthOutOfRange h l => !lengthInRange (lengthOf h l)
  | .restartCompletion => true

end Sys2Proof
end

