-- ==== Sys2Proof/Tests/Slice0.lean ====
section
/-! SUPPORT. Tests: the well-formedness smoke, values that the manual works out, and for every statement that has hypotheses a state
and operands that meet them. -/

namespace Sys2Proof.Tests

open Sys2Proof Sys2Proof.Machine

set_option Elab.async false

/-! ### Well-formedness -/

/-- A body one byte too long. -/
def longBody : List Byte := List.replicate 1023 0

/-- Every request with a body. -/
def requestsWith (b : List Byte) : List Instr :=
  requestKinds.map (fun k => requestCommand (BitVec.ofNat 8 k) 1 b) ++ [.unknownKind 0x99 1 b]

theorem test_wf_requests : (requestsWith (List.replicate 1022 0)).all Instr.wf = true := by decide +kernel

theorem test_wf_bodyTooLong : (requestsWith longBody).all (fun i => !i.wf) = true := by decide +kernel

theorem test_wf_requestCommand : (requestsWith []).eraseDups.length = 36 := by decide +kernel

theorem test_wf_unknownKind : (Instr.unknownKind 0x20 1 []).wf = false := by decide +kernel

theorem test_wf_noCharacters : (Instr.frameReceived []).wf = false := by decide +kernel

theorem test_wf_circuitRange : (Instr.guardExpiry 16383).wf = true ∧ (Instr.guardExpiry 16384).wf = false := by
  decide +kernel

theorem test_wf_groupRange :
    [Instr.windowExpiry 511, .escalationExpiry 511, .tsExpiry 511, .tqExpiry 511, .twExpiry 511].all Instr.wf = true ∧
      [Instr.windowExpiry 512, .escalationExpiry 512, .tsExpiry 512, .tqExpiry 512, .twExpiry 512].all
        (fun i => !i.wf) = true := by decide +kernel

theorem test_wf_tagRange :
    [Instr.seizureSupervisionExpiry 4294967295, .chargeStepExpiry 1].all Instr.wf = true ∧
      [Instr.seizureSupervisionExpiry 0, .seizureSupervisionExpiry 4294967296, .chargeStepExpiry 0,
        .chargeStepExpiry 4294967296].all (fun i => !i.wf) = true := by decide +kernel

theorem test_wf_slotRange : (Instr.gapDurationExpiry 63).wf = true ∧ (Instr.gapDurationExpiry 64).wf = false := by
  decide +kernel

theorem test_wf_lengthInRange :
    (Instr.lengthOutOfRange 0x04 0x01).wf = true ∧ (Instr.lengthOutOfRange 0x00 0x01).wf = true ∧
      (Instr.lengthOutOfRange 0x04 0x00).wf = false ∧ (Instr.lengthOutOfRange 0x00 0x02).wf = false := by decide +kernel

/-- The table gives no bits: no word spells a command. -/
theorem test_decode_noWord : decodeTableWord 8 0x20 = none ∧ decodeTableWord 16 0xC300 = none := by decide +kernel

/-! ### Values that the manual works out -/

/-- R170: the check of the nine bytes 0x31 to 0x39 is 0x29B1. -/
theorem test_check : frameCheck [0x31, 0x32, 0x33, 0x34, 0x35, 0x36, 0x37, 0x38, 0x39] = 0x29B1 := by decide +kernel

/-- R182: layouts of numbers, digits and absent fields. -/
theorem test_layout :
    putNumber 3 0x012345 = [0x01, 0x23, 0x45] ∧ putDigits [4, 9, 3] = [0x03, 0x49, 0x30] ∧
      putOptional (putNumber 2) none = [0x00] ∧ putOptional (putNumber 2) (some 7) = [0x01, 0x00, 0x07] := by
  decide +kernel

/-- R128, R130, R131, R132: a charge, a setup, an interval and a rate, rounded half up. -/
theorem test_pricing :
    stepCharge 1200 75 64 = 1406 ∧ stepCharge 1200 72 60 = 1266 ∧ setupCharge 500 80 = 625 ∧
      TariffValues.intervalMs { setup := 0, price := 0, interval := 3749, fine := 0 } = 60000 ∧
      ratePerMinute 1406 60000 = 1406 ∧ ratePerMinute 1 120000 = 1 := by decide +kernel

/-! ### A small part -/

/-- A group's fields over a range. -/
def config (first count : Nat) : GroupConfig :=
  { carrier := 1, tariffClass := 0, firstCircuit := first, circuitCount := count, hunt := .ascending, reservation := 0,
    i1 := 2, i2 := 1, i3 := 0, hysteresis := 0, windowLength := 60, m0 := 64, m1 := 72, m2 := 80, m3 := 96,
    seizureTime := 8000, guardTime := 500, suspensionCount := 1, ts := 30, tq := 10, tw := 120, te := 120,
    deleteCount := 0, insertDigits := [] }

/-- A group as SET_GROUP creates it. -/
def group (first count : Nat) : Group := newGroup (config first count) 0

/-- The circuits of a group. -/
def range (g first count : Nat) : Table Circuit := (List.range' first count).map (fun i => (i, freshCircuit g))

/-- A tariff. -/
def values : TariffValues := { setup := 100, price := 1200, interval := 3749, fine := 0 }

/-- An account. -/
def account : Account := newAccount { margin := 3, b1 := 0, b2 := 0, b3 := 0, t0 := 64, t1 := 64, t2 := 64, t3 := 64 }

/-- A plan of two choices. -/
def plan : Plan := { choices := [0, 1], mode := .sticky, stickyPosition := some 2, ceiling := none, crankbackLimit := 2 }

/-- A running part with two carriers, a tariff, two groups, a plan and a prefix. -/
def world : State :=
  { State.reset with
    lif := { State.reset.lif with phase := .running },
    rsl := { prefixes := [{ digits := [4, 9], plan := 0, note := none }], plans := [(0, plan)] },
    tgm := { groups := [(0, group 0 4), (1, group 10 4)], circuits := range 0 0 4 ++ range 1 10 4 },
    chu :=
      { State.reset.chu with
        accounts := [(1, account), (2, account)],
        tariffs := [(0, { active := values, pendingSet := none, schedule := none })] } }

/-- The part with a request at the front of its request queue. -/
def asked (kind : Byte) (body : List Byte) (s : State) : State :=
  s.withLif (fun l => { l with requests := [{ kind := kind, number := 1, body := body }] })

/-- The call with tag 5, on circuit 0 of group 0. -/
def call (st : CallState) : Call :=
  { number := [4, 9, 1], circuit := 0, group := 0, plan := 0, position := 1, callClass := .ordinary, incoming := 2,
    attempts := 1, state := st, multiplier := 64, tariffClass := 0, probe := false, grantTime := 0, answerTime := none,
    steps := 0, payable := 0, receivable := 0,
    supervision := if st = .seizing then some 0 else none, chargeStep := if st = .answered then some 0 else none }

/-- The part with that call live. -/
def talking (st : CallState) : State :=
  ((world.putCall 5 (call st)).putCircuit 0 { owner := 0, state := .busy 5, blockPending := false }).modifyGroup 0
    Group.loseIdle

/-- The part with group 0 changed. -/
def with0 (f : Group → Group) : State := world.modifyGroup 0 f

/-- The part with circuit 0 in a state. -/
def standing (st : CircuitState) (pending : Bool) : State :=
  world.putCircuit 0 { owner := 0, state := st, blockPending := pending }

/-- A gap entry. -/
def gap (key : GapKey) (origin : GapOrigin) (next : Nat) : Gap :=
  { key := key, origin := origin, interval := 1000, nextAdmit := next, expiry := none, admitted := 0, refused := 0 }

/-- The part with a gap table. -/
def gapped (t : Table Gap) : State := world.setGaps t

/-- Both groups at level 3, with group 0's escalation timer run out. -/
def jammed : State :=
  (with0 (fun grp => { grp with level := 3, escalationTimer := some 0 })).modifyGroup 1 (fun grp => { grp with level := 3 })

/-- A full gap table. -/
def fullGaps : Table Gap := (List.range 64).map (fun i => (i, gap (.plan (i + 1)) .manual 0))

/-- The body of SEEK for tag 6, from carrier 2. -/
def seekBody (classByte : Byte) : List Byte := putNumber 4 6 ++ putDigits [4, 9, 1] ++ [classByte, 2]

/-- What SEEK brings. -/
def seekFields (classByte : Nat) : SeekFields := { tag := 6, number := [4, 9, 1], classByte := classByte, incoming := 2 }

/-- The next state of an outcome. -/
def next? (o : Host.Outcome State Fault Refusal) : Option State :=
  match o with
  | .next t => some t
  | _ => none

/-- A request of a kind with a body is refused with the fields given: one reply joins, with them behind the summary byte, and no other
field of LIF changes. -/
def refuses (s : State) (kind : Byte) (body fields : List Byte) : Bool :=
  decide ((next? (exec (requestCommand kind 1 body) (asked kind body s))).map (·.lif) =
    some { s.lif with replies := [{ kind := replyKind kind, number := 1, body := s.summaryByte :: fields }] })

/-- Bodies of one kind, each with the fields it is refused with. -/
def refusesAll (s : State) (kind : Byte) (cases : List (List Byte × List Byte)) : Bool :=
  cases.all (fun c => refuses s kind c.1 c.2)

/-- A hypothesis about a link reset, met by a part that has none. -/
theorem marking_of_none {s : State} (h : s.lif.linkReset = none) : ∀ r, s.lif.linkReset = some r → r.marking = true := by
  intro r hr
  rw [h] at hr
  exact absurd hr (by simp)

/-- The laws hold of the part with a call in each state of a call, so the statements that every step keeps them speak of such a
part. -/
theorem test_witness_StepKeepsRecordLaws_PartNeverStops :
    ([CallState.seizing, .alerting, .answered].all (fun st =>
      decide (Canonical (talking st)) && decide (PrefixesNamePlans (talking st)) &&
        decide (GroupsNameConfigured (talking st)) && decide (CircuitsOwned (talking st)) &&
        decide (GroupsOwnRanges (talking st)) && decide (CallsHoldCircuits (talking st)) &&
        decide (BusyCircuitsNamed (talking st)) && decide (ProbesPaired (talking st)))) = true ∧
      CallTimersLaw (talking .seizing) ∧ CallTimersLaw (talking .alerting) ∧ CallTimersLaw (talking .answered) := by
  refine ⟨by decide +kernel, ?_, ?_, ?_⟩ <;> (intro e he; revert e; decide +kernel)

theorem test_witness_StepKeepsQueueLaws_StrainLaw_ValueLaws :
    QueuesBounded (talking .answered) ∧ OneStrainPerGroup (talking .answered) ∧ StrainLaw (talking .answered) ∧
      TotalsInRange (talking .answered) ∧ PeriodLaw (talking .answered) ∧ GapLaw (talking .answered) ∧
      SchedulesAhead (talking .answered) := by
  refine ⟨by decide +kernel, by decide +kernel, by decide +kernel, by decide +kernel, by decide +kernel, by decide +kernel,
    by decide +kernel⟩

/-! ### The machine and the link -/

theorem test_witness_EmptyQueueTicks :
    world.pending = [] ∧ world.lif.phase ≠ .held ∧
      (world.withLif (fun l => { l with phase := .held })).pending = [] := by decide +kernel

/-- A tick of a running part with nothing due. -/
theorem test_tick : next? (step world) = some { world with tmb := { now := 1, clock := 0, clockCount := 1 } } := by decide +kernel

theorem test_witness_WholeFrameReceived :
    world.lif.phase = .running ∧ (∀ r, world.lif.linkReset = some r → r.marking = true) ∧ world.lif.receiver = .hunting ∧
      (∀ b ∈ ([0x00, 0x42] : List Byte), b ≠ 0xC3) ∧ (List.replicate 1022 (0 : Byte)).length ≤ 1022 ∧
      State.reset.lif.phase = .initialising ∧ State.reset.lif.receiver = .hunting := by
  refine ⟨rfl, marking_of_none rfl, rfl, ?_⟩
  decide +kernel

/-- A frame sent in whole, byte by byte, stands in the request queue; one whose check does not match is
abandoned. -/
theorem test_frameReceived :
    (next? (exec (.frameReceived ([0x00] ++ Frame.onLine { kind := 0x40, number := 9, body := [] })) world) =
      some (world.withLif (fun l => { l with requests := [{ kind := 0x40, number := 9, body := [] }] }))) ∧
    (next? (exec (.frameReceived [0xC3, 0x00, 0x02, 0x40, 0x09, 0x00, 0x00]) world) =
      some (world.withLif (fun l => { l with linkError := true }))) := by
  decide +kernel

theorem test_witness_ReceiverAbandonsAndEvents :
    (∀ r, world.lif.linkReset = some r → r.marking = true) ∧ world.lif.phase ≠ .held ∧ world.lif.receiver = .hunting ∧
      (0 : Byte).toNat * 256 + (0 : Byte).toNat ≠ (frameCheck (putNumber 2 2 ++ [0x40, 0x09])).toNat ∧
      (world.withLif (fun l => { l with receiver := .inside [] 0 })).lif.receiver = .inside [] 0 ∧
      (0x00 : Byte).toNat * 256 + (0x01 : Byte).toNat < 2 ∧ 1024 < (0x04 : Byte).toNat * 256 + (0x01 : Byte).toNat ∧
      0 + 10 ≤ (world.setTime { world.tmb with now := 10 }).tmb.now := by
  refine ⟨marking_of_none rfl, ?_⟩
  decide +kernel

/-- The part with replies and advisories queued. -/
def queued (replies : List Frame) (advisories : List Advisory) : State :=
  world.withLif (fun l => { l with replies := replies, advisories := advisories })

theorem test_witness_OutlineChoosesFrameInDeliveryOrder :
    world.lif.phase ≠ .held ∧ world.lif.replies = [] ∧ world.lif.advisories = [] ∧
      next? (exec .outlineFrameSend (queued [{ kind := 0xC0, number := 9, body := [0x01, 0x00] }] [.ready .powerOn])) =
        some ((queued [] [.ready .powerOn]).withLif (fun l =>
          { l with outLine := some (Frame.onLine { kind := 0xC0, number := 9, body := [0x01, 0x00] }) })) ∧
      next? (exec .outlineFrameSend (queued [] [.ready .powerOn, .timeout 1 2 3])) =
        some ((queued [] [.ready .powerOn]).withLif (fun l =>
          { l with
            outLine := some (Frame.onLine { kind := 0x60, number := 0, body := [0x01, 0, 0, 0, 1, 0, 2, 0, 3] }) })) ∧
      takeAdvisory [.ready .powerOn, .timeout 1 2 3, .timeout 4 5 6] = some (.timeout 1 2 3, [.ready .powerOn, .timeout 4 5 6]) ∧
      takeAdvisory [] = none := by decide +kernel

/-- A queue of n advisories. -/
def queueOf (n : Nat) : Lif := { world.lif with advisories := List.replicate n (.timeout 1 2 3) }

theorem test_witness_OfferedAdvisoryQueued :
    ((queueOf 0).offer (.strain 1 1)).advisories = [.strain 1 1] ∧
      (((queueOf 0).offer (.strain 1 1)).offer (.strain 1 2)).advisories = [.strain 1 2] ∧
      (queueOf 31).advisories.length < 32 ∧ 32 ≤ (queueOf 32).advisories.length ∧
      ((queueOf 32).offer (.restarted 0 0)).advisories.getLast? = some (.restarted 0 0) ∧
      ((queueOf 32).offer (.timeout 7 8 9)).advisoryLost = true ∧
      Lif.offer { queueOf 0 with linkReset := some { marking := false, inInit := false } } (.timeout 7 8 9) =
        { queueOf 0 with linkReset := some { marking := false, inInit := false } } := by decide +kernel

/-- The part between the beginning and the end of a link reset. -/
def resetting (serving : Option Serving) (marking inInit : Bool) : State :=
  world.withLif (fun l => { l with serving := serving, linkReset := some { marking := marking, inInit := inInit } })

/-- A RESTART in service. -/
def serving : Serving := { number := 1, calls := 2, gaps := 3, elapsed := 0, left := [] }

theorem test_witness_LinkAndPowerResets :
    (∀ r, world.lif.linkReset = some r → r.marking = true) ∧
      (resetting none false false).lif.linkReset = some { marking := false, inInit := false } ∧
      (resetting none false false).lif.serving = none ∧
      (resetting (some serving) false false).lif.serving = some serving ∧
      (world.withLif (fun l => { l with phase := .held })).lif.phase = .held ∧
      (∃ r, (resetting none false false).lif.linkReset = some r ∧ r.marking = false) ∧
      State.reset.lif.phase = .initialising ∧
      (State.reset.withLif (fun _ => { queueOf 31 with phase := .initialising })).lif.advisories.length < 32 := by
  refine ⟨marking_of_none rfl, ?_⟩
  decide +kernel

/-! ### The engine -/

theorem test_witness_Engine :
    Takes (asked 0x40 [] world) 0x40 1 [] ∧ ¬ Takes world 0x40 1 [] ∧ world.lif.serving = none ∧ Takes (asked 0x99 [] world) 0x99 1 [] ∧
      isRequestKind 0x99 = false := by decide +kernel

/-- A request refused: SET_AUTOGAP with a body too short. -/
theorem test_witness_RefusedRequestChangesNoRecord :
    Takes (asked 0x0D [0x00] world) 0x0D 1 [0x00] ∧
      next? (exec (requestCommand 0x0D 1 [0x00]) (asked 0x0D [0x00] world)) =
        some (world.withLif (fun l => { l with replies := [{ kind := 0x8D, number := 1, body := [0x00, 0x02] }] })) := by
  decide +kernel

/-- The part with a RESTART in service that has effects left. -/
def restarting (left : List RestartEffect) (s : State) : State := s.withServing { serving with left := left }

theorem test_witness_RestartActsAndCompletes :
    Takes (asked 0x33 [] (talking .answered)) 0x33 1 [] ∧ Canonical (asked 0x33 [] (talking .answered)) ∧
      (asked 0x33 [] (talking .answered)).lif.linkReset = none ∧
      (restarting [] world).lif.serving = some serving ∧ serving.number = 1 ∧ serving.number ≠ 2 ∧
      [RestartEffect.freeCalls, .resetGroup 0, .resetGroup 9, .purgeGaps, .announce].all (fun e =>
        decide ((restarting [e] world).lif.serving = some { serving with left := e :: [] })) = true ∧
      (restarting [.resetGroup 0] world).group? 0 = some (group 0 4) ∧
      (restarting [.resetGroup 9] world).group? 9 = none ∧ Canonical (restarting [.resetGroup 0] world) ∧
      (resetting (some serving) false false).lif.serving = some serving ∧
      (resetting (some serving) true false).lif.linkReset = some { marking := true, inInit := false } := by
  refine ⟨by decide +kernel, by decide +kernel, rfl, rfl, rfl, by decide +kernel, by decide +kernel, by decide +kernel,
    by decide +kernel, by decide +kernel, rfl, rfl⟩

/-- An expiry taken after RESTART has emptied the advisory queue and before it removes the calls leaves its TIMEOUT queued, and the
call it ended is not counted (R180). -/
theorem test_restartExpiryBetween :
    (next? (exec (.seizureSupervisionExpiry 5) (restartBegun ((talking .seizing).offer (.ready .powerOn)) 1 0))).map
        (fun t =>
          (t.lif.advisories, t.nextEffect.lif.advisories, t.nextEffect.lif.serving.map (·.calls),
            (t.nextEffect.circuit? 0).map (·.state))) =
      some ([.suspended 0 .faultRun 1, .timeout 5 0 0], [.suspended 0 .faultRun 1, .timeout 5 0 0], some 0, some .idle) := by
  decide +kernel

/-- The effects one after another: the call is removed and its circuit freed, then a group at level 3 falls to 0 and lifts the AUTO
gap of its plan. -/
theorem test_restartEffects :
    (fun t : State =>
      (t.ctb, (t.circuit? 0).map (·.state), t.lif.serving.map (·.calls), (t.group? 0).map (·.idleCount)))
        (State.runEffects 1 (restartBegun (talking .answered) 1 2)) = ([], some .idle, some 1, some 4) ∧
      (fun t : State => ((t.group? 0).map (fun grp => (grp.level, grp.escalationTimer)), t.lif.advisories, t.gpc.gaps))
        (State.runEffects 2 (restartBegun
          (jammed.setGaps [(0, gap (.plan 0) .auto 0), (1, gap (.digits [4]) .manual 0)]) 1 2)) =
        (some (0, none), [.strain 0 0, .gapOff 0 0], [(1, gap (.digits [4]) .manual 0)]) ∧
      (fun t : State => (t.gpc.gaps, t.lif.serving.map (·.gaps), (t.group? 0).map (·.escalationTimer)))
        (State.runEffects 2 (restartBegun
          (jammed.setGaps [(0, gap (.plan 0) .auto 0), (1, gap (.digits [4]) .manual 0)]) 1 0)) =
        ([(1, gap (.digits [4]) .manual 0)], some 1, some none) := by decide +kernel

/-! ### Prefixes and plans -/

theorem test_witness_PrefixRequestsEditOneEntry :
    Takes (asked 0x01 (putDigits [1, 2, 3, 4, 5, 6, 7, 8, 9, 0, 1, 2] ++ [0, 0]) world) 0x01 1
        (putDigits [1, 2, 3, 4, 5, 6, 7, 8, 9, 0, 1, 2] ++ [0, 0]) ∧
      readSetPrefix (putDigits [1, 2, 3, 4, 5, 6, 7, 8, 9, 0, 1, 2] ++ [0, 0]) =
        some ([1, 2, 3, 4, 5, 6, 7, 8, 9, 0, 1, 2], 0, none) ∧
      (world.plan? 0).isSome = true ∧ world.rsl.prefixes.length < 4096 ∧
      readSetPrefix (putDigits [4, 9] ++ [0, 0, 1, 0, 7]) = some ([4, 9], 0, some 7) ∧
      (findEntry [4, 9] world.rsl.prefixes).isSome = true ∧ prefixesOrdered world.rsl.prefixes = true ∧
      Takes (asked 0x02 (putDigits [4, 9]) world) 0x02 1 (putDigits [4, 9]) ∧
      takeDigits (putDigits [4, 9]) = some ([4, 9], []) := by decide +kernel

/-- A prefix table with as many entries as it holds. -/
def fullPrefixes : State := world.setPrefixes (List.replicate 4096 { digits := [4, 9], plan := 0, note := none })

theorem test_refusals_prefixes :
    refusesAll world 0x01
      [([], [2]), ([2, 0x49, 0], [2]), (putDigits [4, 9] ++ [0, 0, 1, 0], [2]), ([0, 0, 0], [4]),
        (putDigits [1, 2, 3, 4, 5, 6, 7, 8, 9, 0, 1, 2, 3] ++ [0, 0], [4]), ([1, 0xA0, 4, 0], [4]),
        (putDigits [4, 9] ++ [4, 0], [3]), (putDigits [4, 9] ++ [3, 255], [5])] = true ∧
      findEntry [5] fullPrefixes.rsl.prefixes = none ∧ fullPrefixes.rsl.prefixes.length = 4096 ∧
      refusesAll fullPrefixes 0x01 [(putDigits [5] ++ [0, 0], [8])] = true ∧
      refusesAll world 0x02 [([], [2]), ([2], [2]), ([0], [4]), ([1, 0xA0], [4]), (putDigits [4], [5])] = true := by
  decide +kernel

theorem test_witness_PrefixLookups :
    prefixesOrdered [{ digits := [4], plan := 0, note := none }, { digits := [4, 9], plan := 1, note := none }] = true ∧
      longestMatch [4, 9, 1]
          [{ digits := [4], plan := 0, note := none }, { digits := [4, 9], plan := 1, note := none }] =
        some { digits := [4, 9], plan := 1, note := none } ∧
      longestMatch [5] world.rsl.prefixes = none ∧
      nextEntry [4] world.rsl.prefixes = some { digits := [4, 9], plan := 0, note := none } ∧
      nextEntry [4, 9] world.rsl.prefixes = none := by decide +kernel

/-- The body of SET_PLAN for plan 1023 with six choices, ceiling 0 and limit 6. -/
def planBody : List Byte :=
  putNumber 2 1023 ++ putList (putNumber 2) [0, 1, 2, 3, 4, 511] ++ [1] ++ putOptional (putNumber 3) (some 0) ++ [6]

theorem test_witness_PlanWrittenAndStickyMoves :
    Takes (asked 0x03 planBody world) 0x03 1 planBody ∧
      readSetPlan planBody =
        some { index := 1023, choices := [0, 1, 2, 3, 4, 511], mode := 1, ceiling := some 0, limit := 6 } ∧
      (∀ g ∈ [0, 1, 2, 3, 4, 511], g < 512) ∧ [0, 1, 2, 3, 4, 511].Nodup ∧
      plan.mode = .sticky ∧ 2 ≤ plan.choices.length ∧ plan.stickyPosition = some 2 ∧
      world.plan? 0 = some plan ∧ world.plan? 1023 = none ∧
      ({ plan with mode := .fixed } : Plan).mode = .fixed := by decide +kernel

theorem test_refusals_plans :
    refusesAll world 0x03
      [([], [2]), ([0, 0, 2, 0, 1], [2]), ([0, 0, 1, 0, 1, 0, 0], [2]), ([0, 0, 1, 0, 1, 0, 1, 0, 0, 5], [2]),
        ([4, 0, 0, 0, 0, 0], [3]), ([0, 0, 0, 0, 0, 0], [4]),
        (putNumber 2 0 ++ putList (putNumber 2) [0, 1, 2, 3, 4, 5, 6] ++ [0, 0, 0], [4]),
        ([0, 0, 1, 2, 0, 0, 0, 0], [3]), ([0, 0, 2, 0, 1, 0, 1, 0, 0, 0], [4]), ([0, 0, 1, 0, 1, 2, 0, 0], [4])] = true := by
  decide +kernel

/-! ### Gaps -/

/-- SET_GAP of plan 0 for 5 s, and of the digits 4, 9 with no end. -/
def gapBodies : List (List Byte) := [1 :: (putNumber 2 0 ++ putNumber 2 0 ++ [1] ++ putNumber 3 5),
  0 :: (putDigits [4, 9] ++ putNumber 2 65535 ++ [0])]

theorem test_witness_GapRequestsEditOneEntry :
    gapBodies.all (fun b => decide (Takes (asked 0x0B b world) 0x0B 1 b)) = true ∧
      gapBodies.map readSetGap =
        [some { key := .plan 0, interval := 0, flag := 1, duration := some 5 },
          some { key := .digits [4, 9], interval := 65535, flag := 0, duration := none }] ∧
      findGap (.plan 0) world.gpc.gaps = none ∧ world.gpc.gaps.get? 0 = none ∧
      findGap (.plan 0) (gapped [(0, gap (.plan 0) .auto 0)]).gpc.gaps = some (0, gap (.plan 0) .auto 0) ∧
      takeGapKey [1, 0, 0] = some (.plan 0, []) ∧ takeGapKey (0 :: putDigits [4, 9]) = some (.digits [4, 9], []) ∧
      findGap (.digits [4, 9]) [(3, gap (.digits [4, 9]) .manual 0)] = some (3, gap (.digits [4, 9]) .manual 0) ∧
      Table.wf [(3, gap (.digits [4, 9]) .manual 0)] = true ∧
      Takes (asked 0x0C [1, 0, 0] (gapped [(0, gap (.plan 0) .auto 0)])) 0x0C 1 [1, 0, 0] := by decide +kernel

theorem test_witness_GapRequests_names :
    RawKey.names world (.plan 0) (.plan 0) ∧ RawKey.names world (.digits [4, 9]) (.digits [4, 9]) := by
  simp only [RawKey.names]
  decide +kernel

theorem test_witness_GapDurationExpiry :
    next? (exec (.gapDurationExpiry 3) (gapped [(3, { gap (.plan 0) .manual 0 with expiry := some 0 })])) = some world := by
  decide +kernel

theorem test_refusals_gaps :
    refusesAll world 0x0B
      [([], [2]), ([1, 0, 0, 0, 100], [2]), ([1, 0, 0, 0, 100, 1, 0, 0], [2]), ([2, 0, 100], [2]), ([2, 0, 100, 0], [4]),
        ([0, 0, 0, 100, 0], [4]), ([0, 1, 0xA0, 0, 100, 0], [4]), ([1, 0, 0, 0, 100, 2], [4]), ([1, 4, 0, 0, 100, 0], [3]),
        ([1, 3, 255, 0, 100, 0], [5])] = true ∧
      RawKey.absent (gapped fullGaps) (.plan 0) ∧ refusesAll (gapped fullGaps) 0x0B [([1, 0, 0, 0, 100, 0], [8])] = true ∧
      refusesAll world 0x0C
        [([], [2]), ([0, 2], [2]), ([1, 0], [2]), ([2], [4]), ([0, 0], [4]), ([1, 4, 0], [3]), ([1, 0, 0], [5])] = true := by
  refine ⟨by decide +kernel, ⟨fun ds h => (by cases h), fun p h => ?_⟩, by decide +kernel, by decide +kernel⟩
  cases h
  decide +kernel

theorem test_witness_SetAutogapStoresInterval :
    Takes (asked 0x0D [0x00] world) 0x0D 1 [0x00] ∧ Takes (asked 0x0D [0xFF, 0xFF] world) 0x0D 1 [0xFF, 0xFF] ∧
      takeNumber 2 [0xFF, 0xFF] = some (65535, []) ∧ plan.choices.head? = some 0 ∧
      ({ world with tgm := { world.tgm with groups := [] } }).planQualifies plan = true ∧
      findGap (.plan 0) world.gpc.gaps = none ∧ freeSlot world.gpc.gaps = some 0 := by decide +kernel

/-- Both keys applying. -/
def twoGaps (a b : Nat) : Table Gap := [(0, gap (.digits [4, 9]) .manual a), (1, gap (.plan 0) .manual b)]

theorem test_witness_GapAdmissionTests :
    (twoGaps 0 0).wf = true ∧ longestGap [4, 9, 1] (twoGaps 6 0) = some (0, gap (.digits [4, 9]) .manual 6) ∧
      longestGap [5] (twoGaps 0 0) = none ∧ findGap (.plan 0) (twoGaps 5 6) = some (1, gap (.plan 0) .manual 6) ∧
      (admission 5 [4, 9, 1] 0 (twoGaps 6 0)).1 = false ∧ (admission 5 [4, 9, 1] 0 (twoGaps 5 6)).1 = false ∧
      admission 5 [4, 9, 1] 0 (twoGaps 5 5) =
        (true,
          [(0, { gap (.digits [4, 9]) .manual 1005 with admitted := 1 }),
            (1, { gap (.plan 0) .manual 1005 with admitted := 1 })]) := by decide +kernel

theorem test_witness_EscalationPlacesGaps :
    (jammed.group? 0).map (·.escalationTimer) = some (some 0) ∧ jammed.planQualifies plan = true ∧
      plan.choices.head? = some 0 ∧ findGap (.plan 0) jammed.gpc.gaps = none ∧ jammed.gpc.gaps.get? 0 = none ∧
      world.planQualifies plan = false ∧ (∀ j < 64, (Table.get? fullGaps j).isSome = true) ∧
      findGap (.plan 0) fullGaps = none := by
  refine ⟨by decide +kernel, by decide +kernel, by decide +kernel, by decide +kernel, by decide +kernel, by decide +kernel,
    by decide +kernel, by decide +kernel⟩

theorem test_witness_FallReportRemovesGaps : Canonical (gapped [(0, gap (.plan 0) .auto 0)]) ∧
    ((gapped [(0, gap (.plan 0) .auto 0)]).fallReport 1) = world.offer (.gapOff 0 1) := by
  refine ⟨by decide +kernel, by decide +kernel⟩

/-! ### Groups and circuits -/

/-- The body of SET_GROUP of a group with a range. -/
def groupBody (g first count : Nat) : List Byte := putNumber 2 g ++ (config first count).layout

/-- Its fields. -/
def groupFields (g first count : Nat) : GroupFields := { index := g, huntByte := 0, config := config first count }

theorem test_witness_SetGroupCreatesGroup :
    Takes (asked 0x04 (groupBody 511 16380 4) world) 0x04 1 (groupBody 511 16380 4) ∧
      readSetGroup (groupBody 511 16380 4) = some (groupFields 511 16380 4) ∧
      world.checkGroup (groupFields 511 16380 4) = none ∧ world.group? 511 = none ∧ world.tgm.circuits.wf = true ∧
      (∀ e ∈ world.tgm.circuits, e.2.owner ≠ 511) := by
  refine ⟨by decide +kernel, by decide +kernel, by decide +kernel, by decide +kernel, by decide +kernel, by decide +kernel⟩

theorem test_checkGroup :
    world.checkGroup (groupFields 512 20 4) = some .badIndex ∧ world.checkGroup (groupFields 2 16381 4) = some .badIndex ∧
      world.checkGroup (groupFields 2 20 0) = some .badValue ∧ world.checkGroup (groupFields 2 3 4) = some .overlap ∧
      world.checkGroup (groupFields 2 4 6) = none ∧ (talking .seizing).checkGroup (groupFields 0 0 5) = some .inUse ∧
      (talking .seizing).checkGroup (groupFields 0 0 4) = none := by decide +kernel

theorem test_refusals_groups :
    refusesAll world 0x04
      [((groupBody 2 20 4).take 36, [2]), (groupBody 512 20 4, [3]), (groupBody 2 16384 1, [3]), (groupBody 2 20 0, [4]),
        (groupBody 2 20 481, [4]), (groupBody 2 16383 2, [3]), (groupBody 2 3 1, [7])] = true ∧
      refusesAll { world with chu := State.reset.chu } 0x04 [(groupBody 2 20 4, [5])] = true ∧
      refusesAll (talking .seizing) 0x04 [(groupBody 0 0 5, [6])] = true ∧
      refusesAll world 0x05 [([2], [2]), ([2, 0], [3]), ([1, 255], [5])] = true ∧
      refusesAll (talking .seizing) 0x05 [([0, 0], [6])] = true ∧
      refusesAll world 0x30 [([0, 0], [2]), ([2, 0, 0], [3]), ([1, 255, 0], [5]), ([0, 0, 2], [4])] = true := by
  decide +kernel

/-- R20 clamps every field out of its range; one in its range stands. -/
theorem test_witness_storedAs :
    (config 0 4).clamped = config 0 4 ∧
      ({ config 0 4 with
          reservation := 64, hysteresis := 64, i1 := 481, i2 := 482, i3 := 481, windowLength := 3601, seizureTime := 999,
          guardTime := 2001, suspensionCount := 0, ts := 0, te := 601, tq := 61, tw := 9 } : GroupConfig).clamped =
        { config 0 4 with
          reservation := 63, hysteresis := 63, i1 := 480, i2 := 480, i3 := 480, windowLength := 3600, seizureTime := 1000,
          guardTime := 2000, suspensionCount := 1, ts := 1, te := 600, tq := 60, tw := 61 } := by decide +kernel

theorem test_witness_SetGroupRewritesGroup :
    Takes (asked 0x04 (groupBody 0 2 4) world) 0x04 1 (groupBody 0 2 4) ∧
      readSetGroup (groupBody 0 2 4) = some (groupFields 0 2 4) ∧ world.checkGroup (groupFields 0 2 4) = none ∧
      world.checkGroup (groupFields 0 0 4) = none ∧ world.group? 0 = some (group 0 4) ∧
      world.tgm.circuits.wf = true := by decide +kernel

theorem test_witness_GroupDeletedOrServiced :
    Takes (asked 0x05 [0, 0] world) 0x05 1 [0, 0] ∧ takeNumber 2 [0, 0] = some (0, []) ∧ world.group? 0 = some (group 0 4) ∧
      (∀ e ∈ world.tgm.circuits, e.2.owner = 0 → e.2.state.isBusy = false ∧ e.2.state.isGuard = false) ∧
      world.tgm.groups.wf = true ∧ Takes (asked 0x30 [0, 0, 1] world) 0x30 1 [0, 0, 1] ∧
      readService [0, 0, 1] = some (0, 1) := by decide +kernel

theorem test_witness_CircuitBlockedAndUnblocked :
    takeNumber 2 [0, 0] = some (0, []) ∧
      [CircuitState.idle, .guarding 9, .busy 5, .blocked].all (fun st =>
        decide (((standing st true).circuit? 0) = some { owner := 0, state := st, blockPending := true }) &&
          ((standing st true).group? 0).isSome && decide (Takes (asked 0x31 [0, 0] (standing st true)) 0x31 1 [0, 0]) &&
          decide (Takes (asked 0x32 [0, 0] (standing st true)) 0x32 1 [0, 0])) = true := by decide +kernel

theorem test_refusals_circuits :
    [0x31, 0x32].all (fun k => refusesAll world k [([0], [2]), ([64, 0], [3]), ([63, 255], [5])]) = true ∧
      refusesAll world 0x44 [([0], [2]), ([64, 0], [3])] = true := by decide +kernel

theorem test_witness_GuardEndsAndRelease :
    (standing (.guarding 0) true).circuit? 0 = some { owner := 0, state := .guarding 0, blockPending := true } ∧
      (standing (.guarding 0) false).circuit? 0 = some { owner := 0, state := .guarding 0, blockPending := false } ∧
      (standing (.guarding 0) false).group? 0 = some (group 0 4) ∧
      (talking .seizing).circuit? 0 = some { owner := 0, state := .busy 5, blockPending := false } ∧
      0 < (group 0 4).config.guardTime := by decide +kernel

/-- A release by a guard time of 0 ends the guard at once. -/
theorem test_releaseAtOnce :
    (State.release ((standing (.busy 5) false).modifyGroup 0
        (fun grp => { grp with config := { grp.config with guardTime := 0 } })) 0).map (fun s => s.circuit? 0) =
      some (some (freshCircuit 0)) := by decide +kernel

theorem test_raiseLevel :
    [0, 1, 2, 3].map (config 0 4).raiseLevel = [3, 2, 1, 0] ∧
      (({ config 0 4 with i1 := 500, i2 := 481, i3 := 600 } : GroupConfig).clamped.i3) = 480 := by decide +kernel

/-- Group 0 at a level, its window run out with a minimum idle count. -/
def windowed (level minIdle : Nat) : State :=
  with0 (fun grp => { grp with level := level, windowTimer := some 0, window := { grp.window with minIdle := minIdle } })

theorem test_witness_WindowExpiryFallsAndRecords :
    (Canonical (windowed 3 1) ∧ Canonical (windowed 1 3) ∧ Canonical (windowed 1 2)) ∧
      ((windowed 3 1).group? 0).map (fun grp => (grp.windowTimer, grp.falls)) = some (some 0, true) ∧
      ((windowed 1 3).group? 0).map (fun grp => (grp.windowTimer, grp.falls)) = some (some 0, true) ∧
      ((windowed 1 2).group? 0).map (fun grp => (grp.windowTimer, grp.falls)) = some (some 0, false) := by
  refine ⟨⟨by decide +kernel, by decide +kernel, by decide +kernel⟩, by decide +kernel, by decide +kernel, by decide +kernel⟩

/-- Group 0 in a service state, with the trial's timers run out. -/
def onTrial (st : ServiceState) : State :=
  with0 (fun grp => { grp with service := st, tsTimer := some 0, tqTimer := some 0, twTimer := some 0 })

theorem test_witness_RestoralTimersMoveTrial :
    [ServiceState.suspended, .reopenFirst, .reopenQuiet, .reopenSecond].map (fun st =>
      ((onTrial st).group? 0).map (fun grp => (grp.service, grp.tsTimer, grp.tqTimer, grp.twTimer))) =
      [some (.suspended, some 0, some 0, some 0), some (.reopenFirst, some 0, some 0, some 0),
        some (.reopenQuiet, some 0, some 0, some 0), some (.reopenSecond, some 0, some 0, some 0)] := by decide +kernel

/-- A fault on a live call suspends its group; a probe's success restores one. -/
theorem test_witness_CallReportActsOnGroup :
    ((talking .seizing).report 5 0 .circuitFault).map (fun s => (s.group? 0).map (·.service)) =
        some (some .suspended) ∧
      (((talking .seizing).modifyGroup 0 (fun grp => { grp with service := .reopenSecond, probe := some 5 })).report 5 0
        .answer).map (fun s => (s.group? 0).map (fun grp => (grp.service, grp.probe))) =
        some (some (.inService, none)) := by decide +kernel

/-! ### Selection and calls -/

theorem test_witness_CandidateTestConditions :
    world.group? 9 = none ∧ world.testCandidate none .ordinary [4, 9] 1 9 = some (.skipped .unavailable) ∧
      (onTrial .suspended).testCandidate none .ordinary [4, 9] 1 0 = some (.skipped .unavailable) ∧
      (with0 (fun grp => { grp with idleCount := 0 })).testCandidate none .ordinary [4, 9] 1 0 =
        some (.skipped .noCircuit) ∧
      (with0 (fun grp => { grp with level := 3 })).testCandidate none .ordinary [4, 9] 2 0 = some (.skipped .strained) ∧
      world.testCandidate (some 1199) .ordinary [4, 9] 1 0 = some (.skipped .ceiling) ∧
      world.testCandidate (some 1200) .ordinary [] 1 0 = some (.skipped .digits) ∧
      (onTrial .reopenFirst).testCandidate (some 1200) .ordinary [4, 9] 2 0 =
        some (.usable
          { position := 2, group := 0, multiplier := 64, rate := 1200, outgoing := [4, 9], asProbe := true }) := by
  decide +kernel

theorem test_witness_SearchOrderAndCause :
    plan.order .onward = [1] ∧ plan.order .ordinary = [1, 2] ∧
      ({ plan with choices := [0, 1, 2, 3], stickyPosition := some 3 } : Plan).order .ordinary = [1, 3, 2, 4] ∧
      ({ plan with choices := [0, 1, 2], mode := .fixed } : Plan).order .priority = [1, 2, 3] ∧
      (search plan .ordinary [4, 9] [1, 2] [] (with0 (fun grp => { grp with idleCount := 0 }))).map (·.2) =
        some (.taken
          { position := 2, group := 1, multiplier := 64, rate := 1200, outgoing := [4, 9], asProbe := false }) := by
  decide +kernel

/-- A skipped candidate counts one overflow at its own group alone, and the first usable one ends the search. -/
theorem test_searchCountsOverflow :
    (search plan .ordinary [4, 9] [1, 2] [] (with0 (fun grp => { grp with idleCount := 0 }))).map (fun r =>
      ((r.1.group? 0).map (·.window.overflows), (r.1.group? 1).map (·.window.overflows))) = some (some 1, some 0) ∧
    search plan .ordinary [] [1, 2] [] world = some (world, .exhausted [.digits, .digits]) ∧
    (search plan .ordinary [4, 9] [1, 2] [] world).map (fun r => (r.1 == world, r.2)) =
      some (true, .taken
        { position := 1, group := 0, multiplier := 64, rate := 1200, outgoing := [4, 9], asProbe := false }) ∧
    [0, 1, 2, 3].map (fun level => ({ group 0 4 with level := level } : Group).multiplier) = [64, 72, 80, 96] ∧
    world.presentRate { group 0 4 with level := 3 } = some 1800 := by decide +kernel

/-- The candidate of group 0 at position 1. -/
def candidate : Candidate :=
  { position := 1, group := 0, multiplier := 64, rate := 1200, outgoing := [4, 9, 1], asProbe := false }

theorem test_witness_GrantHuntsAndSeizes :
    Canonical world ∧ world.group? 0 = some (group 0 4) ∧ world.circuit? 3 = some (freshCircuit 0) ∧
      (world.grant 6 0 candidate).map (·.2) = some 0 ∧
      (State.grant (with0 (fun grp => { grp with config := { grp.config with hunt := .descending } })) 6 0
        candidate).map (·.2) = some 3 ∧
      (State.grant (with0 (fun grp => { grp with config := { grp.config with hunt := .rotating }, rotatePosition := 1 }))
        6 0 candidate).map (·.2) = some 2 := by
  refine ⟨by decide +kernel, by decide +kernel, by decide +kernel, by decide +kernel, by decide +kernel, by decide +kernel⟩

/-- What a SEEK meets before its search. -/
theorem test_witness_SeekGrantsCall_SeekDeniesCall_checks :
    [0, 1, 2].all (fun c =>
      decide (Takes (asked 0x20 (seekBody c) world) 0x20 1 (seekBody c)) &&
        decide (readSeek (seekBody c) = some (seekFields c.toNat)) && (callClassOf c.toNat).isSome) = true ∧
      digitsIn 1 16 (seekFields 0).number = true ∧ (world.account? 2).isSome = true ∧ world.call? 6 = none ∧
      longestMatch [4, 9, 1] world.rsl.prefixes = some { digits := [4, 9], plan := 0, note := none } ∧
      world.plan? 0 = some plan ∧ longestMatch [5] world.rsl.prefixes = none ∧
      admission 0 [4, 9, 1] 0 world.gpc.gaps = (true, []) ∧ (admission 0 [4, 9, 1] 0 (twoGaps 1 0)).1 = false := by
  decide +kernel

theorem test_witness_SeekGrantsCall_search :
    search plan .ordinary [4, 9, 1] (plan.order .ordinary) [] ((asked 0x20 (seekBody 0) world).popRequest.setGaps []) =
        some (world, .taken candidate) ∧
      (world.grant 6 0 candidate).isSome = true := by decide +kernel

theorem test_witness_SeekDeniesCall_search :
    (search plan .ordinary [4, 9, 1] (plan.order .ordinary) [] { world with tgm := { world.tgm with groups := [] } }).map
      (·.2) = some (.exhausted [.unavailable, .unavailable]) := by decide +kernel

/-- A SEEK is answered GRANT, with circuit 0 at its rate of 1,200 cu a minute. -/
theorem test_seek :
    (next? (exec (.seek 1 (seekBody 0)) (asked 0x20 (seekBody 0) world))).map (fun t => t.lif.replies) =
      some [{
        kind := 0xA0, number := 1,
        body := [0x00, 0x10] ++ putNumber 2 0 ++ putNumber 2 0 ++ [1, 0] ++ putNumber 4 1200 ++ putDigits [4, 9, 1] }] := by
  decide +kernel

/-- DENY carries its cause and, behind a presence byte, its plan. -/
theorem test_deny :
    [(world.setPrefixes [], [0x12, 0x01, 0]), (gapped [(0, gap (.plan 0) .manual 9)], [0x12, 0x02, 1, 0, 0])].all (fun c =>
      ((next? (exec (.seek 1 (seekBody 0)) (asked 0x20 (seekBody 0) c.1))).map (fun t => t.lif.replies.map (·.body))) ==
        some [0x00 :: c.2]) = true ∧
      ((world.searchSeek (seekFields 0) .onward 0 { plan with choices := [7] }).map (·.2)) =
        some [0x12, 0x07, 1, 0, 0] := by decide +kernel

theorem test_witness_CallRequestChecks :
    Takes (asked 0x21 (putNumber 4 0) world) 0x21 1 (putNumber 4 0) ∧
      takeNumber 4 (putNumber 4 0) = some (0, []) ∧ Takes (asked 0x24 (putNumber 4 6) world) 0x24 1 (putNumber 4 6) ∧
      takeNumber 4 (putNumber 4 6) = some (6, []) ∧ world.call? 6 = none ∧
      Takes (asked 0x22 (putNumber 4 5) (talking .answered)) 0x22 1 (putNumber 4 5) ∧
      (talking .answered).call? 5 = some (call .answered) := by decide +kernel

theorem test_refusals_calls :
    [0x21, 0x22, 0x24].all (fun k =>
      refusesAll world k [([0, 0, 0], [2]), (putNumber 4 0, [4]), (putNumber 4 6, 0x0A :: putNumber 4 6)]) = true ∧
      refusesAll (talking .alerting) 0x21 [(putNumber 4 5, 0x0B :: (putNumber 4 5 ++ [1]))] = true ∧
      refusesAll (talking .answered) 0x22 [(putNumber 4 5, 0x0B :: (putNumber 4 5 ++ [2]))] = true ∧
      refusesAll (talking .answered) 0x23
        [([0, 0, 0, 5, 8], [2]), ([0, 0, 0, 0, 8, 0], [4]), ([0, 0, 0, 5, 7, 0], [4]), ([0, 0, 0, 5, 11, 0], [4]),
          ([0, 0, 0, 5, 8, 2], [4]), ([0, 0, 0, 6, 8, 1], 0x0A :: putNumber 4 6),
          ([0, 0, 0, 5, 10, 1], 0x0B :: (putNumber 4 5 ++ [2]))] = true ∧
      refusesAll (talking .seizing) 0x20
        [((seekBody 0).dropLast, [2]), (putNumber 4 0 ++ putDigits [4] ++ [0, 2], [4]), (putNumber 4 6 ++ [0, 0, 2], [4]),
          (seekBody 3, [4]), (putNumber 4 6 ++ putDigits [4] ++ [0, 128], [3]),
          (putNumber 4 6 ++ putDigits [4] ++ [0, 127], [0x0F]), (putNumber 4 5 ++ putDigits [4] ++ [0, 2], [9])] = true := by
  decide +kernel

theorem test_witness_ProgressClearAndTimeout :
    takeNumber 4 (putNumber 4 5) = some (5, []) ∧ (talking .seizing).call? 5 = some (call .seizing) ∧
      ((talking .seizing).group? 0).isSome = true ∧
      Takes (asked 0x21 (putNumber 4 5) (talking .seizing)) 0x21 1 (putNumber 4 5) ∧
      Takes (asked 0x24 (putNumber 4 5) (talking .seizing)) 0x24 1 (putNumber 4 5) ∧
      (talking .seizing).circuit? 0 = some { owner := 0, state := .busy 5, blockPending := false } ∧
      (call .seizing).supervision = some 0 := by decide +kernel

theorem test_witness_AnswerAccruesSetupAndFirstStep :
    [CallState.seizing, .alerting].all (fun st =>
      decide (Takes (asked 0x22 (putNumber 4 5) (talking st)) 0x22 1 (putNumber 4 5)) &&
        decide ((talking st).call? 5 = some (call st)) && ((talking st).group? 0).isSome) = true ∧
      world.tariff? 0 = some { active := values, pendingSet := none, schedule := none } ∧
      world.account? 1 = some account ∧ world.account? 2 = some account := by decide +kernel

/-- An answered call owes its setup of 100 cu and its first step of 1,200 cu, and the margin of 3 cu on the other side. -/
theorem test_answer :
    (next? (exec (.answer 1 (putNumber 4 5)) (asked 0x22 (putNumber 4 5) (talking .alerting)))).bind
      (fun t => (t.call? 5).map (fun c => (c.state, c.steps, c.payable, c.receivable, c.chargeStep))) = some (.answered, 1, 1300, 1303, some 60000) := by decide +kernel

/-- READ_CALL ends with the time remaining of the timer that runs and its mark, absent in ALERTING. -/
theorem test_timerLayout :
    ({ call .seizing with supervision := some 258 } : Call).timerLayout 2 = [0, 0, 1, 0, 1, 0] ∧
      ({ call .answered with chargeStep := some 258 } : Call).timerLayout 2 = [0, 0, 1, 0, 1, 1] ∧
      (call .alerting).timerLayout 2 = [0xFF, 0xFF, 0xFF, 0xFF, 0] := by decide +kernel

/-- FAIL with a cause, asking for a continuation or not. -/
def failBody (cause flag : Nat) : List Byte := putNumber 4 5 ++ putNumber 1 cause ++ putNumber 1 flag

theorem test_witness_FailEndsCall_FailContinuesCall :
    [8, 9, 10].all (fun c =>
      decide (Takes (asked 0x23 (failBody c 1) (talking .seizing)) 0x23 1 (failBody c 1)) &&
        decide (readFail (failBody c 1) = some (5, c, 1))) = true ∧
      (call .seizing).state ≠ .answered ∧ (call .seizing).callClass ≠ .onward ∧ (call .seizing).attempts ≤ 2 ∧
      (call .seizing).position + 1 ≤ plan.choices.length ∧
      ((talking .seizing).reportRelease 5 0 0 .farCongestion).isSome = true ∧
      (search plan .ordinary [4, 9, 1] (List.range' 2 (2 - 1)) [] (talking .seizing)).map (·.2) =
        some (.taken { candidate with position := 2, group := 1 }) ∧
      (world.grant 5 0 { candidate with position := 2, group := 1 }).isSome = true ∧
      (search plan .ordinary [4, 9, 1] (List.range' 2 (2 - 1)) []
        ((talking .seizing).modifyGroup 1 (fun grp => { grp with idleCount := 0 }))).map (·.2) =
          some (.exhausted [.noCircuit]) := by decide +kernel

/-- The part with the call at position 2 of a plan of three choices, whose sticky position is given. -/
def alternate (sticky : Nat) : State :=
  ((talking .seizing).putCall 5 { call .seizing with position := 2 }).putPlan 0
    { plan with choices := [1, 0, 7], stickyPosition := some sticky }

/-- A failure and a seizure timeout at the sticky position advance it, one at another position or with the called party busy does
not. -/
theorem test_stickyAdvances :
    [(9, 2, 3), (10, 2, 3), (8, 2, 2), (9, 3, 3)].all (fun c =>
      ((next? (exec (.fail 1 (failBody c.1 0)) (asked 0x23 (failBody c.1 0) (alternate c.2.1)))).bind (fun t =>
        (t.plan? 0).bind (·.stickyPosition))) == some c.2.2) = true ∧
      [(2, 3), (3, 3)].all (fun c =>
        ((next? (exec (.seizureSupervisionExpiry 5) (alternate c.1))).bind (fun t =>
          (t.plan? 0).bind (·.stickyPosition))) == some c.2) = true := by decide +kernel

/-- A failed call is granted again on group 1, its attempt count 2. -/
theorem test_fail :
    (next? (exec (.fail 1 (failBody 9 1)) (asked 0x23 (failBody 9 1) (talking .seizing)))).bind
      (fun t => (t.call? 5).map (fun c => (c.state, c.group, c.circuit, c.attempts))) = some (.seizing, 1, 10, 2) := by decide +kernel

theorem test_witness_ChargeStepAccrues :
    (talking .answered).call? 5 = some (call .answered) ∧ (call .answered).chargeStep = some 0 ∧
      ((talking .answered).group? 0).isSome = true ∧ (talking .answered).account? 1 = some account := by decide +kernel

/-! ### Accounts, tariffs and the clock -/

theorem test_saturation :
    (Bank.addPayable { emptyBank with payable := 68719476734 } 1) = { emptyBank with payable := 68719476735 } ∧
      (Bank.addPayable { emptyBank with payable := 68719476734 } 2) =
        { emptyBank with payable := 68719476735, payableMark := true } ∧
      (Bank.addStep { emptyBank with steps := 4294967295 }).steps = 4294967295 := by decide +kernel

/-- SET_CARRIER of account 127, its thresholds out of order. -/
def carrierBody : List Byte := putNumber 1 127 ++ putNumber 2 3 ++ putNumber 4 9 ++ putNumber 4 7 ++ putNumber 4 8 ++ [1, 2, 3, 4]

theorem test_witness_AccountRequestsServed :
    Takes (asked 0x06 carrierBody world) 0x06 1 carrierBody ∧
      readSetCarrier carrierBody =
        some (127, { margin := 3, b1 := 9, b2 := 7, b3 := 8, t0 := 1, t1 := 2, t2 := 3, t3 := 4 }) ∧
      Takes (asked 0x07 [2] world) 0x07 1 [2] ∧ takeNumber 1 [2] = some (2, []) ∧ world.account? 2 = some account ∧
      (∀ e ∈ world.tgm.groups, e.2.config.carrier ≠ 2) ∧ (∀ e ∈ world.ctb, e.2.incoming ≠ 2) ∧
      account.closed.collected = true ∧ account.running = emptyBank ∧ world.chu.accounts.wf = true ∧
      Takes (asked 0x0F [0xFF, 0xFF] world) 0x0F 1 [0xFF, 0xFF] := by decide +kernel

/-- The part with account 1's closed bank not collected, and a period state. -/
def owing (held : Bool) (timer : Machine.Timer) : State :=
  (world.putAccount 1 { account with closed := { account.closed with collected := false } }).setPeriodState
    { world.chu.period with held := held, timer := timer }

theorem test_witness_PeriodClosesOrIsHeld :
    (∀ a ∈ world.chu.accounts, a.2.closed.collected = true) ∧
      (∃ a ∈ (owing false none).chu.accounts, a.2.closed.collected = false) ∧
      (owing false (some 0)).chu.period.timer = some 0 ∧
      (world.setPeriodState { world.chu.period with timer := some 0 }).chu.period.timer = some 0 ∧
      Takes (asked 0x4A [] world) 0x4A 1 [] ∧ Takes (asked 0x4A [] (owing true none)) 0x4A 1 [] ∧
      (owing true none).chu.period.held = true := by decide +kernel

theorem test_witness_CollectReturnsClosedBank :
    Takes (asked 0x49 [1] (owing true none)) 0x49 1 [1] ∧ takeNumber 1 [1] = some (1, []) ∧
      ((owing true none).account? 1).map (·.closed.collected) = some false ∧
      ((owing true none).account? 2).map (·.closed.collected) = some true ∧
      ((owing true none).putAccount 1 account).allCollected = true ∧ (owing false none).chu.period.held = false ∧
      account.closed.closedAt = none := by
  decide +kernel

/-- The closed-bank record of a bank collected before, closed in period 3 at part clock 9 with a saturated payable accumulator. -/
theorem test_closedBank :
    ClosedBank.layout 127 true
        { account.closed with
          bank := { emptyBank with payable := 68719476735, payableMark := true, transits := 2 }, closedAt := some (3, 9) } =
      [127, 0x27, 0, 0, 0, 3, 0, 0, 0, 9, 0x0F, 0xFF, 0xFF, 0xFF, 0xFF, 0, 0, 0, 0, 0, 0, 0, 0, 0, 0, 0, 0, 0, 0, 0, 0, 2] := by
  decide +kernel

theorem test_refusals_accounts :
    refusesAll world 0x06 [(carrierBody.dropLast, [2]), (128 :: carrierBody.tail, [3])] = true ∧
      refusesAll world 0x07 [([], [2]), ([128], [3]), ([127], [5]), ([1], [6, 0])] = true ∧
      refusesAll (talking .answered) 0x07 [([2], [6, 1])] = true ∧
      refusesAll (world.putAccount 3 { account with closed := { account.closed with collected := false } }) 0x07
        [([3], [6, 2])] = true ∧
      refusesAll (world.putAccount 3 { account with running := { emptyBank with transits := 1 } }) 0x07
        [([3], [6, 3])] = true ∧
      refusesAll world 0x0F [([0], [2])] = true ∧ refusesAll world 0x49 [([], [2]), ([128], [3]), ([127], [5])] = true := by
  decide +kernel

/-- The part with class 0's pending set and schedule, at part clock 5. -/
def scheduled (at_ : Option Nat) : State :=
  (world.putTariff 0 { active := values, pendingSet := some { values with price := 900 }, schedule := at_ }).setTime
    { world.tmb with clock := 5, clockCount := 1000 }

theorem test_witness_TariffLoadedAndScheduled :
    [0, 63].all (fun c =>
      decide (Takes (asked 0x08 (BitVec.ofNat 8 c :: values.layout) world) 0x08 1 (BitVec.ofNat 8 c :: values.layout)) &&
        decide (readLoadTariff (BitVec.ofNat 8 c :: values.layout) = some (c, values))) = true ∧
      world.tariff? 0 = some { active := values, pendingSet := none, schedule := none } ∧ world.tariff? 63 = none ∧
      [5, 6].all (fun time =>
        decide (Takes (asked 0x09 (0 :: putNumber 4 time) (scheduled none)) 0x09 1 (0 :: putNumber 4 time)) &&
          decide (readScheduleTariff (0 :: putNumber 4 time) = some (0, time))) = true ∧
      ((scheduled none).tariff? 0).map (·.pendingSet) = some (some { values with price := 900 }) ∧
      (scheduled none).tmb.clock = 5 := by decide +kernel

theorem test_refusals_tariffs :
    refusesAll (scheduled (some 9)) 0x08 [((0 :: values.layout).dropLast, [2]), (64 :: values.layout, [3]),
        (0 :: values.layout, [0x0C])] = true ∧
      refusesAll world 0x09
        [([0, 0, 0, 0], [2]), (64 :: putNumber 4 9, [3]), (63 :: putNumber 4 9, [5, 0]), (0 :: putNumber 4 9, [5, 1])] =
        true ∧
      refusesAll world 0x0E [([0, 0, 0], [2])] = true := by decide +kernel

theorem test_witness_CancelTariffRemovesSchedule :
    [[], [64], [63], [0]].all (fun b => decide (Takes (asked 0x0A b (scheduled (some 9))) 0x0A 1 b)) = true ∧
      (scheduled (some 9)).tariff? 63 = none ∧ ((scheduled (some 9)).tariff? 0).isSome = true := by decide +kernel

theorem test_witness_ClockMovesAndActivates :
    Takes (asked 0x0E (putNumber 4 9) (scheduled (some 6))) 0x0E 1 (putNumber 4 9) ∧
      takeNumber 4 (putNumber 4 9) = some (9, []) ∧ Canonical (asked 0x0E (putNumber 4 9) (scheduled (some 6))) ∧
      SchedulesAhead (asked 0x0E (putNumber 4 9) (scheduled (some 6))) ∧ Canonical (scheduled (some 6)) ∧
      SchedulesAhead (scheduled (some 6)) ∧ (scheduled (some 6)).lif.phase = .running ∧
      (scheduled (some 6)).tmb.clockCount = 1000 ∧
      ((scheduled none).setTime { now := 0, clock := 4294967295, clockCount := 1000 }).tmb.clock = 4294967295 := by
  refine ⟨by decide +kernel, by decide +kernel, by decide +kernel, by decide +kernel, by decide +kernel, by decide +kernel,
    by decide +kernel⟩

/-- The rise that reaches a schedule activates its class. -/
theorem test_partClockRise :
    next? (exec .partClockRise (scheduled (some 6))) =
      some ((((world.putTariff 0
          { active := { values with price := 900 }, pendingSet := none, schedule := none }).setPeriodState
          { world.chu.period with tariffMark := true }).setTime { now := 0, clock := 6, clockCount := 0 }).offer
        (.tariffOn 0 { values with price := 900 } 6 .clock)) := by decide +kernel

/-! ### Readings -/

theorem test_witness_RecordAndTableReadings :
    Takes (asked 0x42 [0, 0] world) 0x42 1 [0, 0] ∧ Takes (asked 0x43 [0, 0] world) 0x43 1 [0, 0] ∧
      Takes (asked 0x45 (putNumber 4 5) (talking .alerting)) 0x45 1 (putNumber 4 5) ∧
      Takes (asked 0x46 [1] world) 0x46 1 [1] ∧ Takes (asked 0x47 [0] world) 0x47 1 [0] ∧
      (world.plan? 0).isSome = true ∧ (world.group? 0).isSome = true ∧ ((talking .alerting).call? 5).isSome = true ∧
      (world.account? 1).isSome = true ∧ (world.tariff? 0).isSome = true ∧
      Takes (asked 0x48 [63] world) 0x48 1 [63] ∧ takeNumber 1 [63] = some (63, []) := by decide +kernel

theorem test_witness_ReadPrefix :
    [(0, [4, 9]), (1, [4, 9, 1]), (2, [])].all (fun q =>
      decide (Takes (asked 0x41 (BitVec.ofNat 8 q.1 :: putDigits q.2) world) 0x41 1
          (BitVec.ofNat 8 q.1 :: putDigits q.2)) &&
        decide (readReadPrefix (BitVec.ofNat 8 q.1 :: putDigits q.2) = some q)) = true ∧
      (findEntry [4, 9] world.rsl.prefixes).isSome = true ∧ (longestMatch [4, 9, 1] world.rsl.prefixes).isSome = true ∧
      (nextEntry [] world.rsl.prefixes).isSome = true := by decide +kernel

theorem test_refusals_readings :
    refusesAll world 0x42 [([0], [2]), ([4, 0], [3]), ([3, 255], [5])] = true ∧
      refusesAll world 0x43 [([0], [2]), ([2, 0], [3]), ([1, 255], [5])] = true ∧
      refusesAll world 0x45 [([0, 0, 0], [2]), ([0, 0, 0, 0], [4]), ([0, 0, 0, 6], 0x0A :: putNumber 4 6)] = true ∧
      refusesAll world 0x46 [([], [2]), ([128], [3]), ([127], [5])] = true ∧
      refusesAll world 0x47 [([], [2]), ([64], [3]), ([63], [5])] = true ∧
      refusesAll world 0x48 [([], [2]), ([64], [3])] = true ∧
      refusesAll world 0x41
        [([], [2, 0, 1]), ([0, 2], [2, 0, 1]), ([3, 1, 0x40], [4, 0, 1]), ([0, 0], [4, 0, 1]), ([1, 0], [4, 0, 1]),
          ([2, 1, 0xA0], [4, 0, 1]), ([0, 1, 0x40], [5, 0, 1]), ([1, 1, 0x50], [5, 0, 1]), ([2, 1, 0x50], [5, 0, 1])] =
        true := by decide +kernel

/-- SET_GAP read back in its four forms. -/
theorem test_witness_RequestBodiesReadBack :
    [readSetGap (0 :: (putDigits [4, 9] ++ putNumber 2 100 ++ [0])),
      readSetGap (0 :: (putDigits [4, 9] ++ putNumber 2 100 ++ [1] ++ putNumber 3 86400)),
      readSetGap (1 :: (putNumber 2 1023 ++ putNumber 2 100 ++ [0])),
      readSetGap (1 :: (putNumber 2 1023 ++ putNumber 2 100 ++ [1] ++ putNumber 3 86400))] =
      [some { key := .digits [4, 9], interval := 100, flag := 0, duration := none },
        some { key := .digits [4, 9], interval := 100, flag := 1, duration := some 86400 },
        some { key := .plan 1023, interval := 100, flag := 0, duration := none },
        some { key := .plan 1023, interval := 100, flag := 1, duration := some 86400 }] ∧
      readSetPrefix (putDigits [4, 9] ++ putNumber 2 5 ++ putOptional (putNumber 2) (some 7)) = some ([4, 9], 5, some 7) ∧
      readSetPlan planBody =
        some { index := 1023, choices := [0, 1, 2, 3, 4, 511], mode := 1, ceiling := some 0, limit := 6 } ∧
      readSetGroup (groupBody 2 20 4) = some (groupFields 2 20 4) ∧ readSeek (seekBody 1) = some (seekFields 1) ∧
      readFail (failBody 9 1) = some (5, 9, 1) ∧ readService [0, 0, 1] = some (0, 1) ∧
      (readSetCarrier carrierBody).map (·.1) = some 127 ∧ readLoadTariff (63 :: values.layout) = some (63, values) ∧
      readScheduleTariff (0 :: putNumber 4 9) = some (0, 9) := by decide +kernel

theorem test_witness_ReadCircuitReturnsRecord :
    [16384, 16383, 0].all (fun i =>
      decide (Takes (asked 0x44 (putNumber 2 i) world) 0x44 1 (putNumber 2 i)) &&
        decide (takeNumber 2 (putNumber 2 i) = some (i, []))) = true ∧
      world.circuit? 16383 = none ∧ world.circuit? 0 = some (freshCircuit 0) := by decide +kernel

/-- READ_GAPS of a full table returns sixteen entries and the slot that follows. -/
theorem test_readGaps :
    followingSlot (gapsFrom 0 fullGaps) = 16 ∧ followingSlot (gapsFrom 48 fullGaps) = 0xFF ∧
      followingSlot (gapsFrom 47 fullGaps) = 63 := by decide +kernel

end Sys2Proof.Tests
end

section
/-! PROOFS. The raise function f (R40) and the clamps of the fields of a group (R20): for which idle counts f yields or reaches each
level, and what the clamps store. -/

namespace Sys2Proof.Machine

namespace GroupConfig

/-! ### The idle counts of each level -/

/-- Level 3 is tested first, so I3 alone decides it. -/
theorem raiseLevel_eq_three_iff (c : GroupConfig) (idle : Nat) : c.raiseLevel idle = 3 ↔ idle ≤ c.i3 := by
  unfold raiseLevel
  (repeat' split) <;> simp [*]

/-- A level below 3 is reached where its own threshold or a higher level's is; the thresholds need not be in order. -/
theorem two_le_raiseLevel_iff (c : GroupConfig) (idle : Nat) :
    2 ≤ c.raiseLevel idle ↔ idle ≤ c.i3 ∨ idle ≤ c.i2 := by
  unfold raiseLevel
  (repeat' split) <;> omega

/-- The same of level 1, which any of the three thresholds reaches. -/
theorem one_le_raiseLevel_iff (c : GroupConfig) (idle : Nat) :
    1 ≤ c.raiseLevel idle ↔ idle ≤ c.i3 ∨ idle ≤ c.i2 ∨ idle ≤ c.i1 := by
  unfold raiseLevel
  (repeat' split) <;> omega

theorem raiseLevel_le_three (c : GroupConfig) (idle : Nat) : c.raiseLevel idle ≤ 3 := by
  unfold raiseLevel
  (repeat' split) <;> omega

/-- f yields a level below 3 where it reaches that level and not the next one up. -/
theorem raiseLevel_eq_two_iff (c : GroupConfig) (idle : Nat) :
    c.raiseLevel idle = 2 ↔ c.i3 < idle ∧ idle ≤ c.i2 := by
  have reaches2 := c.two_le_raiseLevel_iff idle
  have reaches3 := c.raiseLevel_eq_three_iff idle
  have top := c.raiseLevel_le_three idle
  omega

theorem raiseLevel_eq_one_iff (c : GroupConfig) (idle : Nat) :
    c.raiseLevel idle = 1 ↔ c.i3 < idle ∧ c.i2 < idle ∧ idle ≤ c.i1 := by
  have reaches1 := c.one_le_raiseLevel_iff idle
  have reaches2 := c.two_le_raiseLevel_iff idle
  omega

theorem raiseLevel_eq_zero_iff (c : GroupConfig) (idle : Nat) :
    c.raiseLevel idle = 0 ↔ c.i3 < idle ∧ c.i2 < idle ∧ c.i1 < idle := by
  have reaches1 := c.one_le_raiseLevel_iff idle
  omega

/-! ### Equal thresholds -/

/-- With I1 = I2 no idle count lies above I2 and not above I1, so level 1 is skipped. -/
theorem raiseLevel_ne_one_of_eq (c : GroupConfig) (h : c.i1 = c.i2) (idle : Nat) : c.raiseLevel idle ≠ 1 := by
  rw [Ne, raiseLevel_eq_one_iff, h]
  exact fun ⟨_, above, atMost⟩ => Nat.not_le_of_gt above atMost

/-- With I2 = I3 level 2 is skipped in the same way. -/
theorem raiseLevel_ne_two_of_eq (c : GroupConfig) (h : c.i2 = c.i3) (idle : Nat) : c.raiseLevel idle ≠ 2 := by
  rw [Ne, raiseLevel_eq_two_iff, h]
  exact fun ⟨above, atMost⟩ => Nat.not_le_of_gt above atMost

end GroupConfig

/-! ### The clamps -/

/-- A value clamped into a range, by the side of the range on which it lies. -/
theorem clamp_eq_ite {low high : Nat} (h : low ≤ high) (value : Nat) :
    clamp low high value = if value < low then low else if high < value then high else value := by
  unfold clamp
  (repeat' split) <;> omega

/-- A value held to a largest one, by the side of it on which the value lies. -/
theorem ceiling_eq_ite (high value : Nat) : min high value = if high < value then high else value := by
  (repeat' split) <;> omega

namespace GroupConfig

/-- The clamped I3 is at most the clamped I2, and that at most the clamped I1, whatever was sent. -/
theorem clamped_thresholds_ordered (c : GroupConfig) : c.clamped.i3 ≤ c.clamped.i2 ∧ c.clamped.i2 ≤ c.clamped.i1 :=
  ⟨Nat.min_le_left _ _, Nat.min_le_left _ _⟩

theorem clamped_i1_le (c : GroupConfig) : c.clamped.i1 ≤ 480 := Nat.min_le_left _ _

/-- R20 as a condition on the stored fields: the fields a later one is clamped against (I1, I2, Tq) are those clamped before. -/
theorem clamped_storedAs (c : GroupConfig) : c.storedAs c.clamped := by
  simp [storedAs, clamped, clamp_eq_ite, ceiling_eq_ite]

end GroupConfig

/-! ### The statement -/

/-- Settles O30: each level's condition on the idle count is the `iff` of that level, and the clamp's clauses are its own lemmas. -/
theorem raiseFunctionOfIdleCount : Obligations.RaiseFunctionOfIdleCount := by
  unfold Obligations.RaiseFunctionOfIdleCount
  refine ⟨fun c idle => ⟨?three, ?two, ?one, ?zero, fun h => c.raiseLevel_ne_one_of_eq h idle,
    fun h => c.raiseLevel_ne_two_of_eq h idle, ?zeroThreshold, ?all3, ?all2, ?all1⟩, ?clamps⟩
  case three => exact (c.raiseLevel_eq_three_iff idle).mpr
  case two => exact fun above3 le2 => (c.raiseLevel_eq_two_iff idle).mpr ⟨above3, le2⟩
  case one => exact fun above3 above2 le1 => (c.raiseLevel_eq_one_iff idle).mpr ⟨above3, above2, le1⟩
  case zero => exact fun above3 above2 above1 => (c.raiseLevel_eq_zero_iff idle).mpr ⟨above3, above2, above1⟩
  case zeroThreshold => exact fun h => by rw [c.raiseLevel_eq_three_iff, h, Nat.le_zero]
  case all3 => exact fun count le => (c.raiseLevel_eq_three_iff idle).mpr (Nat.le_trans le count)
  case all2 => exact fun count le => (c.two_le_raiseLevel_iff idle).mpr (.inr (Nat.le_trans le count))
  case all1 => exact fun count le => (c.one_le_raiseLevel_iff idle).mpr (.inr (.inr (Nat.le_trans le count)))
  case clamps =>
    intro c
    obtain ⟨le32, le21⟩ := c.clamped_thresholds_ordered
    exact ⟨c.clamped_storedAs, le32, le21, c.clamped_i1_le⟩

end Sys2Proof.Machine
end

section
/-! PROOFS. Accrual (R136, R137) and the charge step (R86): what an addition to a running bank leaves in every account, what the step
accrual returns and leaves, and the expiry of a charge-step timer that is due. -/

namespace Sys2Proof.Machine

namespace State

/-! ### An addition to a running bank -/

/-- One account's running bank changes; the account table is all that is written. -/
theorem onBank_of_account {s : State} {k : Nat} {a : Account} (h : s.account? k = some a) (f : Bank → Bank) :
    ∃ accounts, s.onBank k f = some (s.setAccounts accounts) ∧
      ∀ j, accounts.get? j = (s.account? j).map (fun b => b.onRunning (fun bank => if j = k then f bank else bank)) := by
  refine ⟨s.chu.accounts.put k (a.onRunning f), by rw [onBank, h]; rfl, fun j => ?_⟩
  rw [Table.get?_put]
  by_cases own : j = k
  · subst own
    simp [h]
  · simp [own, account?, Account.onRunning]

/-! ### The step accrual -/

/-- R137: the outgoing bank is written first, so the margin is read from an account that may have been written: its configuration
stands. The same carrier on both sides takes both additions. -/
theorem accrueStep_of_accounts {s : State} {outgoing incoming : Nat} {out inc : Account}
    (hout : s.account? outgoing = some out) (hinc : s.account? incoming = some inc) (price multiplier : Nat) {step : Nat}
    (hstep : stepCharge price multiplier (out.config.factor out.running.steps) = step) :
    ∃ accounts,
      s.accrueStep outgoing incoming price multiplier =
        some (s.setAccounts accounts, { payable := step, receivable := step + inc.config.margin }) ∧
      ∀ k, accounts.get? k = (s.account? k).map (fun a =>
        a.onRunning (fun b =>
          let paid := if k = outgoing then (b.addPayable step).addStep else b
          if k = incoming then paid.addReceivable (step + inc.config.margin) else paid)) := by
  obtain ⟨paid, hpay, readPaid⟩ := onBank_of_account hout (fun b => (b.addPayable step).addStep)
  have hincPaid : (s.setAccounts paid).account? incoming = some (inc.onRunning fun b =>
      if incoming = outgoing then (b.addPayable step).addStep else b) := by
    rw [account_setAccounts, readPaid, hinc]
    rfl
  obtain ⟨credited, hcredit, readCredited⟩ :=
    onBank_of_account hincPaid (fun b => b.addReceivable (step + inc.config.margin))
  refine ⟨credited, ?_, fun k => ?_⟩
  · simp only [accrueStep, hout, hstep, hpay, hincPaid, Option.bind_eq_bind, Option.bind_some, Account.onRunning, hcredit]
    rfl
  · rw [readCredited, account_setAccounts, readPaid, Option.map_map]
    rfl

/-! ### The charge step -/

/-- R86: the accrual runs on the carrier of the call's group and the incoming carrier, and the record is written with what it returns. -/
theorem chargeCall_of_accrueStep {s : State} {tag : Nat} {call : Call} {grp : Group} {tariff : TariffClass}
    {accounts : Table Account} {amounts : Charged} (hgrp : s.group? call.group = some grp)
    (htariff : s.tariff? call.tariffClass = some tariff)
    (haccrue : s.accrueStep grp.config.carrier call.incoming tariff.active.price call.multiplier =
      some (s.setAccounts accounts, amounts)) :
    s.chargeCall tag call =
      some ((s.setAccounts accounts).putCall tag (call.charged (s.now + tariff.active.intervalMs) amounts)) := by
  simp only [chargeCall, outgoingOf, htariff, hgrp, Option.map_some, Option.bind_eq_bind, Option.bind_some, haccrue]
  rfl

end State

/-- The expiry of a charge-step timer acts where the call is in ANSWERED and the time has come. -/
theorem exec_chargeStepExpiry_of_due {s t : State} {tag e : Nat} {call : Call} (hcall : s.call? tag = some call)
    (answered : call.state = .answered) (htimer : call.chargeStep = some e) (due : e ≤ s.now)
    (hcharge : s.chargeCall tag call = some t) : exec (.chargeStepExpiry tag) s = .next t := by
  have dispatch : exec (.chargeStepExpiry tag) s = execChargeStepExpiry tag s := rfl
  rw [dispatch, execChargeStepExpiry, hcall]
  simp [answered, htimer, Timer.due, due, hcharge, occurs]

/-! ### The statement -/

/-- Settles O44: a due expiry runs the charge step, which is the step accrual on the two accounts followed by the write of the call's
record. -/
theorem chargeStepAccrues : Obligations.ChargeStepAccrues := by
  unfold Obligations.ChargeStepAccrues
  intro s tag e call grp tariff out inc step hcall answered htimer due hgrp htariff hout hinc hstep
  obtain ⟨accounts, haccrue, readAccounts⟩ :=
    State.accrueStep_of_accounts hout hinc tariff.active.price call.multiplier hstep.symm
  have hcharge := State.chargeCall_of_accrueStep (tag := tag) hgrp htariff haccrue
  exact ⟨_, exec_chargeStepExpiry_of_due hcall answered htimer due hcharge, rfl, readAccounts⟩

end Sys2Proof.Machine
end

section
/-! PROOFS. The AUTO_GAP interval (R118): SET_AUTOGAP on a body too short and on one that holds an interval, and the AUTO entry that
an escalation report places with the interval stored at that time (R119). -/

namespace Sys2Proof.Machine

/-! ### SET_AUTOGAP -/

theorem exec_setAutogap (number : Byte) (body : List Byte) (s : State) :
    exec (.setAutogap number body) s = serve 0x0D number body handleSetAutogap s := rfl

theorem handleSetAutogap_of_short {body : List Byte} (short : body.length < 2) (s : State) :
    handleSetAutogap body s = refuse s .badLength := by
  rw [handleSetAutogap, (takeNumber_eq_none 2 body).mpr short]

theorem handleSetAutogap_of_read {body rest : List Byte} {v : Nat} (read : takeNumber 2 body = some (v, rest)) (s : State) :
    handleSetAutogap body s =
      accept { s with gpc := { s.gpc with autoInterval := clamp 100 60000 v } }
        (putNumber 2 s.gpc.autoInterval ++ putNumber 2 (clamp 100 60000 v)) := by
  rw [handleSetAutogap, read]

/-- R118: the interval stored is all that the block writes, so the entries that stand keep theirs. -/
theorem setAutogap_served_of_read {s : State} {number : Byte} {body rest : List Byte} {v : Nat}
    (takes : Takes s 0x0D number body) (read : takeNumber 2 body = some (v, rest)) :
    ∃ t, exec (.setAutogap number body) s = .next t ∧
      Served s t 0x0D number []
        (0x00 :: (putNumber 2 s.gpc.autoInterval ++ putNumber 2 (clamp 100 60000 v))) ∧
      t = { s with lif := t.lif, gpc := { s.gpc with autoInterval := clamp 100 60000 v } } := by
  have ran := exec_setAutogap number body s
  rw [serve_of_takes takes, handleSetAutogap_of_read read] at ran
  exact ⟨_, ran, served_completed (offered := []) 0x0D number _ rfl, rfl⟩

/-! ### A new AUTO entry -/

namespace State

/-- R119: a plan that qualifies and has no entry gets one in the free slot, with the interval stored at the report. -/
theorem gapPlan_of_freeSlot {s : State} {g p slot : Nat} {plan : Plan} (direct : plan.choices.head? = some g)
    (qualifies : s.planQualifies plan = true) (ungapped : findGap (.plan p) s.gpc.gaps = none)
    (free : freeSlot s.gpc.gaps = some slot) :
    s.gapPlan g (p, plan) =
      (s.setGaps (s.gpc.gaps.put slot (autoEntry p s.gpc.autoInterval s.now))).offer
        (.gapOn p g s.gpc.autoInterval .placed) := by
  simp [gapPlan, direct, qualifies, ungapped, free]

end State

/-! ### The statement -/

/-- Settles O20: the refusal and the service are the two cases of the handler, and a placed entry is read back from its slot. -/
theorem setAutogapStoresInterval : Obligations.SetAutogapStoresInterval := by
  unfold Obligations.SetAutogapStoresInterval
  refine ⟨fun s number body takes => ⟨fun short => ?refused, fun v rest read => ?stored⟩,
    fun s g p slot plan direct qualifies ungapped free => ?placed⟩
  case refused =>
    exact refused_of_serve takes (exec_setAutogap number body s) (handleSetAutogap_of_short short s.popRequest)
  case stored => exact setAutogap_served_of_read takes read
  case placed =>
    rw [State.gapPlan_of_freeSlot direct qualifies ungapped free, State.offer_gpc, State.setGaps_gpc, Table.get?_put_self]
    rfl

end Sys2Proof.Machine
end

section
/-! PROOFS. CANCEL_TARIFF (R162): the checks of a request that names one record by its index, what a refusal leaves of the state, and
the tariff class that the request writes. -/

namespace Sys2Proof.Machine

/-! ### One index and the record behind it -/

/-- An index of one byte is the body's first byte. -/
theorem takeNumber_one_cons (b : Byte) (rest : List Byte) : takeNumber 1 (b :: rest) = some (b.toNat, rest) := by
  simp [takeNumber, valueOf]

section
variable {α : Type} {n limit i : Nat} {find : Nat → Option α} {body rest : List Byte}

theorem withRecord_of_short (short : body.length < n) (s : State) (act : Nat → α → Answer) :
    withRecord n limit find body s act = refuse s .badLength := by
  rw [withRecord, (takeNumber_eq_none n body).mpr short]

theorem withRecord_of_outOfRange (read : takeNumber n body = some (i, rest)) (beyond : limit ≤ i) (s : State)
    (act : Nat → α → Answer) : withRecord n limit find body s act = refuse s .badIndex := by
  simp only [withRecord, read, if_pos beyond]

theorem withRecord_of_notConfigured (read : takeNumber n body = some (i, rest)) (inRange : i < limit)
    (missing : find i = none) (s : State) (act : Nat → α → Answer) :
    withRecord n limit find body s act = refuse s .notConfigured := by
  simp only [withRecord, read, if_neg (Nat.not_le_of_gt inRange), missing]

theorem withRecord_of_configured (read : takeNumber n body = some (i, rest)) (inRange : i < limit) {r : α}
    (held : find i = some r) (s : State) (act : Nat → α → Answer) : withRecord n limit find body s act = act i r := by
  simp only [withRecord, read, if_neg (Nat.not_le_of_gt inRange), held]

end

/-! ### A refusal -/

/-- A refusal is served with its result alone, and every record outside LIF stands as it was. -/
theorem completed_refuse {s : State} {a : Answer} {r : Result} (refused : a = refuse s.popRequest r) (kind number : Byte) :
    Served s (completed kind number a) kind number [] [r.code] ∧
      completed kind number a = { s with lif := (completed kind number a).lif } := by
  subst refused
  exact ⟨served_completed (offered := []) kind number [r.code] rfl, rfl⟩

/-! ### CANCEL_TARIFF -/

/-- Reading a tariff class after a write of one. -/
theorem State.tariff_putTariff (s : State) (c j : Nat) (t : TariffClass) :
    (s.putTariff c t).tariff? j = if j = c then some t else s.tariff? j := Table.get?_put _ _ _ _

theorem exec_cancelTariff (number : Byte) (body : List Byte) (s : State) :
    exec (.cancelTariff number body) s = serve 0x0A number body handleCancelTariff s := rfl

/-- R162: the schedule of a configured class is removed and answered, its active values and its pending set are kept. -/
theorem handleCancelTariff_of_class {s : State} {b : Byte} {old : TariffClass} (inRange : b.toNat < 64)
    (held : s.tariff? b.toNat = some old) (rest : List Byte) :
    handleCancelTariff (b :: rest) s =
      accept (s.putTariff b.toNat { old with schedule := none }) (putOptional (putNumber 4) old.schedule) :=
  withRecord_of_configured (takeNumber_one_cons b rest) inRange held s _

/-- The class that the request names is written, and the table of classes is all that changes outside LIF. -/
theorem completed_cancelTariff {s : State} {a : Answer} {c : Nat} {old : TariffClass}
    (answered : a = accept (s.popRequest.putTariff c { old with schedule := none })
      (putOptional (putNumber 4) old.schedule)) (number : Byte) :
    Served s (completed 0x0A number a) 0x0A number [] (0x00 :: putOptional (putNumber 4) old.schedule) ∧
      completed 0x0A number a =
        { s with
          lif := (completed 0x0A number a).lif,
          chu := { s.chu with tariffs := (completed 0x0A number a).chu.tariffs } } ∧
      ∀ d, (completed 0x0A number a).tariff? d = if d = c then some { old with schedule := none } else s.tariff? d := by
  subst answered
  exact ⟨served_completed (offered := []) 0x0A number _ rfl, rfl, fun d => s.popRequest.tariff_putTariff c d _⟩

/-! ### The statement -/

/-- Settles O50: the state left is the completion of the handler's answer, and each case of the checks of R162 says which answer. -/
theorem cancelTariffRemovesSchedule : Obligations.CancelTariffRemovesSchedule := by
  unfold Obligations.CancelTariffRemovesSchedule
  intro s number body takes
  have ran := exec_cancelTariff number body s
  rw [serve_of_takes takes] at ran
  refine ⟨_, ran, ?short, ?read⟩
  case short =>
    rintro rfl
    exact completed_refuse (withRecord_of_short Nat.zero_lt_one _ _) 0x0A number
  case read =>
    rintro b rest rfl
    have read := takeNumber_one_cons b rest
    refine ⟨fun beyond => ?badIndex, fun inRange missing => ?notConfigured, fun old inRange held => ?removed⟩
    case badIndex => exact completed_refuse (withRecord_of_outOfRange read beyond _ _) 0x0A number
    case notConfigured => exact completed_refuse (withRecord_of_notConfigured read inRange missing _ _) 0x0A number
    case removed => exact completed_cancelTariff (handleCancelTariff_of_class (s := s.popRequest) inRange held rest) number

end Sys2Proof.Machine
end

section
/-! PROOFS. What a block can do to the records of the part, once: every request and every expiry is a sequence of writes, each of one
record or of one table. A gentle write keeps what the records of the other blocks rely on. Each write stands with what it keeps of the
laws on the values it writes, so that a law is proved to hold along every step by one look at each kind of write. -/

namespace Sys2Proof.Machine

/-! ### The laws of single records -/

/-- The totals of a call within their ranges (R140). -/
def Call.inRange (c : Call) : Prop :=
  c.payable ≤ Config.maxTotal ∧ c.receivable ≤ Config.maxTotal ∧ c.steps ≤ Config.max32

/-- The two banks of an account within their ranges (R139, R144). -/
def Account.inRange (a : Account) : Prop := a.running.inRange ∧ a.closed.bank.inRange

/-- The law of one gap entry in its slot (R112). -/
def Gap.lawful (slot : Nat) (g : Gap) : Prop :=
  slot < 64 ∧ 100 ≤ g.interval ∧ g.interval ≤ 60000 ∧ (g.origin = .auto → g.key.digits? = none ∧ g.expiry = none)

/-- The law of the period's hold, of its number and of its length (R149, R152). -/
def Period.lawful (p : Period) : Prop :=
  (p.held = true → p.timer = none) ∧ p.number ≤ Config.max32 ∧ p.length ≤ 1440

theorem totalsInRange_iff (s : State) :
    TotalsInRange s ↔ (∀ e ∈ s.chu.accounts, e.2.inRange) ∧ ∀ e ∈ s.ctb, e.2.inRange := Iff.rfl

theorem periodLaw_iff (s : State) : PeriodLaw s ↔ s.chu.period.lawful := Iff.rfl

theorem gapLaw_iff (s : State) :
    GapLaw s ↔ (∀ e ∈ s.gpc.gaps, e.2.lawful e.1) ∧ 100 ≤ s.gpc.autoInterval ∧ s.gpc.autoInterval ≤ 60000 := Iff.rfl

/-- What the circuits and the calls rely on of a group: its configuration, its idle count, its probe, and, while it has a probe, its
service state (R18, R102, R126). -/
def Group.reliesAs (after before : Group) : Prop :=
  after.config = before.config ∧ after.idleCount = before.idleCount ∧ after.probe = before.probe ∧
    (before.probe = none ∨ after.service = before.service)

/-- A table of gaps in its canonical form, with no two entries of one key (R112). -/
def gapsCanonical (t : Table Gap) : Prop := t.wf = true ∧ gapKeysDistinct t = true

/-! ### Writes -/

/-- One write that keeps what the other blocks rely on. -/
inductive Gentle : State → State → Prop
  | offer (s : State) (a : Advisory) : Gentle s (s.offer a)
  | plan (s : State) (p : Nat) (q : Plan) : Gentle s (s.putPlan p q)
  | group (s : State) (g : Nat) (before after : Group) (held : s.group? g = some before) (relied : after.reliesAs before)
      (strain : before.strainLaw → after.strainLaw) : Gentle s (s.putGroup g after)
  | groups (s : State) (f : Nat → Group → Group) (relied : ∀ g grp, (f g grp).reliesAs grp)
      (strain : ∀ g grp, grp.strainLaw → (f g grp).strainLaw) : Gentle s (s.setGroups (s.tgm.groups.mapValues f))
  | account (s : State) (k : Nat) (a : Account) (range : TotalsInRange s → a.inRange) : Gentle s (s.putAccount k a)
  | accounts (s : State) (f : Account → Account) (range : ∀ a, a.inRange → (f a).inRange) :
      Gentle s (s.setAccounts (s.chu.accounts.mapValues (fun _ a => f a)))
  | tariff (s : State) (c : Nat) (t : TariffClass) (ahead : SchedulesAhead s → t.scheduleLaw s.tmb.clock) :
      Gentle s (s.putTariff c t)
  | period (s : State) (p : Period) (law : s.chu.period.lawful → p.lawful) : Gentle s (s.setPeriodState p)
  | gaps (s : State) (t : Table Gap) (canon : gapsCanonical s.gpc.gaps → gapsCanonical t)
      (law : GapLaw s → ∀ e ∈ t, e.2.lawful e.1) : Gentle s (s.setGaps t)
  | autoInterval (s : State) (v : Nat) (low : 100 ≤ v) (high : v ≤ 60000) :
      Gentle s { s with gpc := { s.gpc with autoInterval := v } }
  | clock (s : State) (v : Nat) (trigger : TariffTrigger) (range : v ≤ Config.max32) : Gentle s (s.clockTo v trigger)
  | clockCount (s : State) : Gentle s (s.setTime { s.tmb with clockCount := 0 })

/-- One write of a block. -/
inductive Write : State → State → Prop
  | gentle {s t : State} (h : Gentle s t) : Write s t
  | entry (s : State) (e : PrefixEntry) : Write s (s.setPrefixes (putEntry e s.rsl.prefixes))
  | eraseEntry (s : State) (ds : Digits) : Write s (s.setPrefixes (Machine.eraseEntry ds s.rsl.prefixes))
  | group (s : State) (g : Nat) (grp : Group) (strain : StrainLaw s → grp.strainLaw) : Write s (s.putGroup g grp)
  | eraseGroup (s : State) (g : Nat) : Write s (s.eraseGroup g)
  | circuits (s : State) (t : Table Circuit) (canon : s.tgm.circuits.wf = true → t.wf = true) : Write s (s.setCircuits t)
  | call (s : State) (tag : Nat) (c : Call) (range : TotalsInRange s → c.inRange) : Write s (s.putCall tag c)
  | eraseCall (s : State) (tag : Nat) : Write s (s.eraseCall tag)
  | eraseAccount (s : State) (k : Nat) : Write s (s.setAccounts (s.chu.accounts.erase k))

/-- A sequence of steps of a relation, of any length. -/
inductive Steps (r : State → State → Prop) (s : State) : State → Prop
  | refl : Steps r s s
  | tail {t u : State} (before : Steps r s t) (last : r t u) : Steps r s u

namespace Steps

@[refl, simp] theorem self (r : State → State → Prop) (s : State) : Steps r s s := .refl

theorem single {r : State → State → Prop} {s t : State} (h : r s t) : Steps r s t := .tail .refl h

theorem trans {r : State → State → Prop} {s t u : State} (h : Steps r s t) (k : Steps r t u) : Steps r s u := by
  induction k with
  | refl => exact h
  | tail _ last ih => exact ih.tail last

theorem mono {r q : State → State → Prop} (finer : ∀ s t, r s t → q s t) {s t : State} (h : Steps r s t) : Steps q s t := by
  induction h with
  | refl => exact .refl
  | tail _ last ih => exact ih.tail (finer _ _ last)

end Steps

/-- A sequence of gentle writes. -/
abbrev Gentles : State → State → Prop := Steps Gentle

/-- A sequence of writes. -/
abbrev Writes : State → State → Prop := Steps Write

theorem Gentle.gentles {s t : State} (h : Gentle s t) : Gentles s t := .single h

theorem Write.writes {s t : State} (h : Write s t) : Writes s t := .single h

theorem Gentles.writes {s t : State} (h : Gentles s t) : Writes s t :=
  h.mono fun _ _ => Write.gentle

theorem Gentles.offer {s t : State} (h : Gentles s t) (a : Advisory) : Gentles s (t.offer a) := h.tail (.offer t a)

theorem Writes.offer {s t : State} (h : Writes s t) (a : Advisory) : Writes s (t.offer a) := h.tail (.gentle (.offer t a))

/-- A fold of steps that are each a sequence of writes is one. -/
theorem gentles_foldl {β : Type} {f : State → β → State} (step : ∀ s b, Gentles s (f s b)) (l : List β) (s : State) :
    Gentles s (l.foldl f s) := by
  induction l generalizing s with
  | nil => exact .refl
  | cons b l ih => exact (step s b).trans (ih (f s b))

/-- What holds along every kind of gentle write holds along a sequence of them. -/
theorem Gentles.keeps {P : State → Prop} {s t : State} (h : Gentles s t) (one : ∀ a b, Gentle a b → P a → P b) (hs : P s) :
    P t := by
  induction h with
  | refl => exact hs
  | tail _ last ih => exact one _ _ last ih

/-- The same of writes. -/
theorem Writes.keeps {P : State → Prop} {s t : State} (h : Writes s t) (one : ∀ a b, Write a b → P a → P b) (hs : P s) :
    P t := by
  induction h with
  | refl => exact hs
  | tail _ last ih => exact one _ _ last ih

end Sys2Proof.Machine
end

section
/-! PROOFS. The shared operations of the blocks as sequences of writes: the raise test, the reports to gap control, the report of a call
event, the search, the grant and the accrual. -/

namespace Sys2Proof.Machine

/-! ### Offers in order -/

/-- Blocks offer advisories in order. -/
def State.offerAll (s : State) (as : List Advisory) : State := s.withLif (fun l => as.foldl Lif.offer l)

namespace State

@[simp] theorem offerAll_nil (s : State) : s.offerAll [] = s := rfl
@[simp] theorem offerAll_cons (s : State) (a : Advisory) (as : List Advisory) :
    s.offerAll (a :: as) = (s.offer a).offerAll as := rfl
@[simp] theorem offerAll_lif (s : State) (as : List Advisory) : (s.offerAll as).lif = as.foldl Lif.offer s.lif := rfl
@[simp] theorem offerAll_tgm (s : State) (as : List Advisory) : (s.offerAll as).tgm = s.tgm := rfl
@[simp] theorem offerAll_group (s : State) (as : List Advisory) (g : Nat) : (s.offerAll as).group? g = s.group? g := rfl

end State

theorem gentles_offerAll (s : State) (as : List Advisory) : Gentles s (s.offerAll as) := by
  induction as generalizing s with
  | nil => exact .refl
  | cons a as ih => exact (Gentle.offer s a).gentles.trans (ih (s.offer a))

/-! ### The strain law of a group -/

/-- A group whose level the raise test may still have to raise: the strain law but for its first clause. -/
def Group.awaitsTest (grp : Group) : Prop :=
  grp.level ≤ 3 ∧ grp.window.minIdle ≤ grp.idleCount ∧ grp.config.i3 ≤ grp.config.i2 ∧ grp.config.i2 ≤ grp.config.i1

theorem Group.strainLaw.awaitsTest {grp : Group} (h : grp.strainLaw) : grp.awaitsTest := h.2

/-- The raise test makes the strain law whole (R39, R41). -/
theorem Group.awaitsTest.tested {grp : Group} (h : grp.awaitsTest) (now : Nat) : (grp.tested now).strainLaw := by
  obtain ⟨level, minIdle, le32, le21⟩ := h
  exact ⟨Nat.le_max_right _ _, Nat.max_le.mpr ⟨level, grp.config.raiseLevel_le_three _⟩, minIdle, le32, le21⟩

/-- The strain law reads four fields of a group. -/
theorem Group.strainLaw_of_same {a b : Group} (config : a.config = b.config) (idle : a.idleCount = b.idleCount)
    (level : a.level = b.level) (minIdle : a.window.minIdle = b.window.minIdle) (h : b.strainLaw) : a.strainLaw := by
  simpa only [Group.strainLaw, config, idle, level, minIdle] using h

/-- f falls, or stays, as the idle count rises (R40). -/
theorem GroupConfig.raiseLevel_antitone (c : GroupConfig) {a b : Nat} (h : a ≤ b) : c.raiseLevel b ≤ c.raiseLevel a := by
  unfold raiseLevel
  (repeat' split) <;> omega

/-- More IDLE circuits keep the strain law. -/
theorem Group.strainLaw.gainIdle {grp : Group} (h : grp.strainLaw) : grp.gainIdle.strainLaw := by
  obtain ⟨raise, level, minIdle, ordered⟩ := h
  exact ⟨Nat.le_trans (grp.config.raiseLevel_antitone (Nat.le_succ _)) raise, level, Nat.le_succ_of_le minIdle, ordered⟩

/-- One IDLE circuit less leaves the raise test to run. -/
theorem Group.awaitsTest.loseIdle {grp : Group} (h : grp.awaitsTest) : grp.loseIdle.awaitsTest :=
  ⟨h.1, Nat.min_le_right _ _, h.2.2⟩

/-- The strain law of a configured group. -/
theorem strainLaw_of_group {s : State} {g : Nat} {grp : Group} (h : s.group? g = some grp) (law : StrainLaw s) :
    grp.strainLaw := law _ (Table.mem_of_get? _ h)

/-! ### Groups -/

/-- A change of a group that keeps its strain law. -/
theorem writes_modifyGroup (s : State) (g : Nat) (f : Group → Group) (strain : ∀ grp, grp.strainLaw → (f grp).strainLaw) :
    Writes s (s.modifyGroup g f) := by
  cases h : s.group? g with
  | none => rw [State.modifyGroup_of_none h]
  | some grp =>
    rw [State.modifyGroup_of_group h]
    exact (Write.group s g _ fun law => strain grp (strainLaw_of_group h law)).writes

/-- A change of a group that its circuits and its probe do not see. -/
theorem gentles_modifyGroup (s : State) (g : Nat) (f : Group → Group) (relied : ∀ grp, (f grp).reliesAs grp)
    (strain : ∀ grp, grp.strainLaw → (f grp).strainLaw) : Gentles s (s.modifyGroup g f) := by
  cases h : s.group? g with
  | none => rw [State.modifyGroup_of_none h]
  | some grp =>
    rw [State.modifyGroup_of_group h]
    exact (Gentle.group s g grp _ h (relied grp) (strain grp)).gentles

/-- A change of a call that keeps its totals in range. -/
theorem writes_modifyCall (s : State) (tag : Nat) (f : Call → Call) (range : ∀ c, c.inRange → (f c).inRange) :
    Writes s (s.modifyCall tag f) := by
  cases h : s.call? tag with
  | none => rw [State.modifyCall_of_none h]
  | some c =>
    rw [State.modifyCall_of_call h]
    exact (Write.call s tag _ fun law => range c (law.2 _ (Table.mem_of_get? _ h))).writes

/-- A call is written over with the totals it had. -/
theorem writes_putCall_of_live {s : State} {tag : Nat} {old : Call} (h : s.call? tag = some old) (c : Call)
    (range : old.inRange → c.inRange) : Writes s (s.putCall tag c) :=
  (Write.call s tag c fun law => range (law.2 _ (Table.mem_of_get? _ h))).writes

/-- The write of a group and the raise test after it are one write of the tested group, with its STRAIN (R41, R49, R51). -/
theorem raiseTest_putGroup (s : State) (g : Nat) (grp : Group) :
    (s.putGroup g grp).raiseTest g =
      (s.putGroup g (grp.tested s.now)).offerAll (strainOffered g grp.level (grp.tested s.now).level) := by
  have top := grp.config.raiseLevel_le_three grp.idleCount
  rw [State.raiseTest_of_group (State.group_putGroup_self s g grp)]
  by_cases same : grp.testedLevel = grp.level
  · have level : (grp.tested s.now).level = grp.level := same
    have unchanged : grp.tested s.now = grp := by
      have below : ¬ (grp.level < 3 ∧ grp.config.raiseLevel grp.idleCount = 3) := by
        simp only [Group.testedLevel] at same
        omega
      simp only [Group.testedLevel] at same
      simp only [Group.tested, if_neg below, same]
    rw [if_pos same, unchanged, strainOffered, if_pos rfl, State.offerAll_nil]
  · have raised : grp.raisedTo grp.testedLevel s.now = grp.tested s.now := by
      simp only [Group.testedLevel] at same
      have entry : max grp.level (grp.config.raiseLevel grp.idleCount) = 3 ↔
          grp.level < 3 ∧ grp.config.raiseLevel grp.idleCount = 3 := by omega
      simp only [Group.raisedTo, Group.testedLevel, Group.tested, entry, msOfSeconds]
    have level : (grp.tested s.now).level ≠ grp.level := same
    rw [if_neg same, State.putGroup_now, raised, State.putGroup_putGroup, strainOffered, if_neg level]
    rfl

/-- A group that awaits the raise test is written and tested. -/
theorem writes_putGroup_raiseTest (s : State) (g : Nat) (grp : Group) (awaits : StrainLaw s → grp.awaitsTest) :
    Writes s ((s.putGroup g grp).raiseTest g) := by
  rw [raiseTest_putGroup]
  exact (Write.group s g _ fun law => (awaits law).tested s.now).writes.trans (gentles_offerAll _ _).writes

/-- An IDLE circuit that a group loses, with the raise test. -/
theorem writes_loseIdle_raiseTest (s : State) (g : Nat) : Writes s ((s.modifyGroup g Group.loseIdle).raiseTest g) := by
  cases h : s.group? g with
  | none =>
    have untouched : s.raiseTest g = s := by rw [State.raiseTest, h]
    rw [State.modifyGroup_of_none h, untouched]
  | some grp =>
    rw [State.modifyGroup_of_group h]
    exact writes_putGroup_raiseTest s g _ fun law => (strainLaw_of_group h law).awaitsTest.loseIdle

/-! ### Gap control -/

theorem gapKeysDistinct_iff (t : Table Gap) : gapKeysDistinct t = true ↔ t.Pairwise (fun a b => b.2.key ≠ a.2.key) := by
  induction t with
  | nil => simp [gapKeysDistinct]
  | cons e t ih => simp [gapKeysDistinct, ih, List.all_eq_true]

/-- In a list where no two elements have one image, an image names its element. -/
theorem eq_of_pairwise_ne {α β : Type} {f : α → β} {l : List α} (distinct : l.Pairwise fun a b => f b ≠ f a) {a b : α}
    (ha : a ∈ l) (hb : b ∈ l) (same : f a = f b) : a = b := by
  induction distinct with
  | nil => cases ha
  | cons apart _ ih =>
    rcases List.mem_cons.mp ha with rfl | there <;> rcases List.mem_cons.mp hb with rfl | there'
    · rfl
    · exact absurd same.symm (apart b there')
    · exact absurd same (apart a there)
    · exact ih there there'

/-- In a table with rising keys, one entry for a gap key is one slot for it. -/
theorem gapsCanonical_iff (t : Table Gap) :
    gapsCanonical t ↔ t.wf = true ∧ ∀ a ∈ t, ∀ b ∈ t, a.2.key = b.2.key → a.1 = b.1 := by
  refine and_congr_right fun wf => ?_
  rw [gapKeysDistinct_iff]
  constructor
  · intro distinct a ha b hb key
    exact congrArg _ (eq_of_pairwise_ne (f := fun e : Nat × Gap => e.2.key) distinct ha hb key)
  · intro slots
    induction t with
    | nil => exact .nil
    | cons e t ih =>
      obtain ⟨above, tail⟩ := (Table.wf_cons e.1 e.2 t).mp wf
      refine .cons (fun b hb key => ?_) (ih tail fun a ha b hb => slots a (by simp [ha]) b (by simp [hb]))
      have := slots b (by simp [hb]) e (by simp) key
      have := above b hb
      omega

/-- An entry is written in a slot whose key no other slot has. -/
theorem gapsCanonical_put {t : Table Gap} (h : gapsCanonical t) (slot : Nat) (g : Gap)
    (fresh : ∀ e ∈ t, e.2.key = g.key → e.1 = slot) : gapsCanonical (t.put slot g) := by
  rw [gapsCanonical_iff] at h ⊢
  obtain ⟨wf, slots⟩ := h
  refine ⟨Table.wf_put t wf slot g, fun a ha b hb key => ?_⟩
  rcases Table.mem_put t ha with rfl | ha <;> rcases Table.mem_put t hb with rfl | hb
  · rfl
  · exact (fresh b hb key.symm).symm
  · exact fresh a ha key
  · exact slots a ha b hb key

theorem gapsCanonical_erase {t : Table Gap} (h : gapsCanonical t) (slot : Nat) : gapsCanonical (t.erase slot) := by
  rw [gapsCanonical_iff] at h ⊢
  exact ⟨Table.wf_erase t h.1 slot, fun a ha b hb => h.2 a (Table.mem_erase t ha) b (Table.mem_erase t hb)⟩

theorem gapsCanonical_filter {t : Table Gap} (h : gapsCanonical t) (p : Nat × Gap → Bool) : gapsCanonical (t.filter p) := by
  rw [gapsCanonical_iff] at h ⊢
  exact ⟨Table.wf_filter t h.1 p, fun a ha b hb =>
    h.2 a (List.mem_filter.mp ha).1 b (List.mem_filter.mp hb).1⟩

/-- The entry found for a key stands in the table with that key. -/
theorem mem_of_findGap {key : GapKey} {t : Table Gap} {e : Nat × Gap} (h : findGap key t = some e) :
    e ∈ t ∧ e.2.key = key :=
  ⟨List.mem_of_find?_eq_some h, by simpa using List.find?_some h⟩

/-- No entry is found for a key exactly when no entry has it. -/
theorem findGap_eq_none (key : GapKey) (t : Table Gap) : findGap key t = none ↔ ∀ e ∈ t, e.2.key ≠ key := by
  simp [findGap, List.find?_eq_none]

/-- The free slot is a slot of the table, empty, and the lowest such. -/
theorem freeSlot_eq_some (t : Table Gap) (slot : Nat) :
    freeSlot t = some slot ↔ slot < 64 ∧ t.get? slot = none ∧ ∀ j < slot, (t.get? j).isSome = true := by
  have range : Config.gapCapacity = 64 := rfl
  simp only [freeSlot, range, List.find?_range_eq_some, List.mem_range]
  simp [Option.isSome_iff_ne_none, and_left_comm]

/-- No slot is free exactly when every slot is taken. -/
theorem freeSlot_eq_none (t : Table Gap) : freeSlot t = none ↔ ∀ j < 64, (t.get? j).isSome = true := by
  have range : Config.gapCapacity = 64 := rfl
  simp [freeSlot, range, List.find?_eq_none, Option.isSome_iff_ne_none]

/-- A write of a gap entry under a key that no other slot has. -/
theorem gentle_putGap (s : State) (slot : Nat) (g : Gap)
    (fresh : gapsCanonical s.gpc.gaps → ∀ e ∈ s.gpc.gaps, e.2.key = g.key → e.1 = slot)
    (lawful : GapLaw s → g.lawful slot) : Gentle s (s.setGaps (s.gpc.gaps.put slot g)) := by
  refine .gaps s _ (fun canon => gapsCanonical_put canon slot g (fresh canon)) fun law e he => ?_
  rcases Table.mem_put _ he with rfl | he
  · exact lawful law
  · exact law.1 e he

theorem gentle_eraseGap (s : State) (slot : Nat) : Gentle s (s.setGaps (s.gpc.gaps.erase slot)) :=
  .gaps s _ (fun canon => gapsCanonical_erase canon slot) fun law e he => law.1 e (Table.mem_erase _ he)

theorem gentle_filterGaps (s : State) (p : Nat × Gap → Bool) : Gentle s (s.setGaps (s.gpc.gaps.filter p)) :=
  .gaps s _ (fun canon => gapsCanonical_filter canon p) fun law e he => law.1 e (List.mem_filter.mp he).1

/-- What an escalation report does with one plan (R119, R120). -/
theorem gentles_gapPlan (g : Nat) (s : State) (e : Nat × Plan) : Gentles s (s.gapPlan g e) := by
  rw [State.gapPlan]
  split
  next qualifies =>
    have ungapped : findGap (.plan e.1) s.gpc.gaps = none := by simp_all
    split
    next slot free =>
      refine .trans (gentle_putGap s slot _ (fun _ d hd key => absurd key ?_) fun law => ?_).gentles (Gentle.offer _ _).gentles
      · exact (findGap_eq_none _ _).mp ungapped d hd
      · exact ⟨((freeSlot_eq_some _ _).mp free).1, law.2.1, law.2.2, fun _ => ⟨rfl, rfl⟩⟩
    next => exact (Gentle.offer _ _).gentles
  next => exact .refl

theorem gentles_escalationReport (s : State) (g : Nat) : Gentles s (s.escalationReport g) :=
  gentles_foldl (gentles_gapPlan g) _ s

/-- What a fall report does with one plan (R121). -/
theorem gentles_ungapPlan (g : Nat) (s : State) (e : Nat × Plan) : Gentles s (s.ungapPlan g e) := by
  rw [State.ungapPlan]
  (repeat' split) <;> try exact .refl
  exact (gentle_eraseGap s _).gentles.trans (Gentle.offer _ _).gentles

theorem gentles_fallReport (s : State) (g : Nat) : Gentles s (s.fallReport g) := gentles_foldl (gentles_ungapPlan g) _ s

/-- What a change of level queues and reports (R49, R52). -/
theorem gentles_levelChanged (s : State) (g : Nat) (before after : Group) : Gentles s (s.levelChanged g before after) := by
  rw [State.levelChanged]
  split
  · exact .refl
  · split
    · exact (Gentle.offer s _).gentles.trans (gentles_fallReport _ g)
    · exact (Gentle.offer s _).gentles

end Sys2Proof.Machine
end

section
/-! PROOFS. The operations on calls, accounts, tariffs and circuits as sequences of writes. -/

namespace Sys2Proof.Machine

/-! ### Restoral -/

/-- A group keeps its strain law when only its service, its faults, its probe and its trial's timers change (chapter 6). -/
theorem writes_putGroup_same (s : State) (g : Nat) {grp : Group} (held : s.group? g = some grp) (after : Group)
    (config : after.config = grp.config) (idle : after.idleCount = grp.idleCount) (level : after.level = grp.level)
    (window : after.window = grp.window) : Writes s (s.putGroup g after) :=
  (Write.group s g after fun law =>
    Group.strainLaw_of_same config idle level (by rw [window]) (strainLaw_of_group held law)).writes

theorem writes_countFaults {s : State} {g : Nat} {grp : Group} (held : s.group? g = some grp) (ev : CallEvent) :
    Writes s (s.countFaults g grp ev) := by
  rw [State.countFaults]
  split
  · exact .refl
  · exact writes_putGroup_same s g held _ rfl rfl rfl rfl
  · split
    · refine Writes.offer ?_ _
      exact writes_putGroup_same s g held _ rfl rfl rfl rfl
    · exact writes_putGroup_same s g held _ rfl rfl rfl rfl

theorem writes_applyEvidence (s : State) (g : Nat) (held : ServiceState) (e : Evidence) :
    Writes s (s.applyEvidence g held e) := by
  unfold State.applyEvidence
  split
  · exact writes_modifyGroup s g _ fun grp => Group.strainLaw_of_same rfl rfl rfl rfl
  · split
    · exact .refl
    next grp configured =>
      refine Writes.offer ?_ _
      exact writes_putGroup_same s g configured _ rfl rfl rfl rfl
  · exact writes_modifyGroup s g _ fun grp => Group.strainLaw_of_same rfl rfl rfl rfl
  · exact writes_modifyGroup s g _ fun grp => Group.strainLaw_of_same rfl rfl rfl rfl
  · exact .refl

theorem writes_endProbe (s : State) (g tag : Nat) : Writes s (s.endProbe g tag) :=
  .trans (t := s.modifyGroup g (fun grp => { grp with probe := none }))
    (writes_modifyGroup s g _ fun _ => Group.strainLaw_of_same rfl rfl rfl rfl) (writes_modifyCall _ tag _ fun _ h => h)

/-- A report of a call event (R82, R103). -/
theorem writes_report {s t : State} {tag g : Nat} {ev : CallEvent} (h : s.report tag g ev = some t) : Writes s t := by
  cases held : s.group? g with
  | none => simp [State.report, held] at h
  | some grp =>
    simp only [State.report, held, Option.bind_eq_bind, Option.bind_some, Option.pure_def, Option.some.injEq] at h
    have taken := (writes_countFaults held ev).trans
      (writes_applyEvidence (s.countFaults g grp ev) g grp.service (ev.evidence (decide (grp.probe = some tag))))
    have probed := taken.trans (u := if decide (grp.probe = some tag) = true then _ else _) <| by
      split
      · exact writes_endProbe _ g tag
      · exact .refl
    rw [← h]
    split
    · exact probed.trans (writes_modifyGroup _ g _ fun _ => Group.strainLaw_of_same rfl rfl rfl rfl)
    · exact probed

/-! ### Circuits -/

theorem writes_putCircuit (s : State) (i : Nat) (c : Circuit) : Writes s (s.putCircuit i c) :=
  (Write.circuits s _ fun wf => Table.wf_put _ wf i c).writes

/-- The ending of a guard (R29, R30). -/
theorem writes_endGuard (s : State) (i : Nat) (circ : Circuit) : Writes s (s.endGuard i circ) := by
  rw [State.endGuard]
  split
  · exact writes_putCircuit s i _
  · exact (writes_putCircuit s i _).trans (writes_modifyGroup _ _ _ fun _ h => h.gainIdle)

/-- A release (R29). -/
theorem writes_release {s t : State} {i : Nat} (h : s.release i = some t) : Writes s t := by
  simp only [State.release, Option.bind_eq_bind, Option.bind_eq_some_iff] at h
  obtain ⟨circ, -, grp, -, h⟩ := h
  split at h
  · split at h <;> rw [Option.pure_def, Option.some.injEq] at h <;> subst h
    · exact writes_endGuard s i circ
    · exact writes_putCircuit s i _
  · cases h

theorem writes_reportRelease {s t : State} {tag g i : Nat} {ev : CallEvent} (h : s.reportRelease tag g i ev = some t) :
    Writes s t := by
  simp only [State.reportRelease, Option.bind_eq_bind, Option.bind_eq_some_iff] at h
  obtain ⟨r, reported, released⟩ := h
  exact (writes_report reported).trans (writes_release released)

/-! ### Sticky positions, the search and the grant -/

theorem gentles_advanceSticky (s : State) (p position : Nat) : Gentles s (s.advanceSticky p position) := by
  rw [State.advanceSticky]
  split
  · exact .refl
  · exact (Gentle.plan s p _).gentles

theorem gentles_grantSticky (s : State) (p position : Nat) : Gentles s (s.grantSticky p position) := by
  rw [State.grantSticky]
  split
  · exact .refl
  · exact (Gentle.plan s p _).gentles

theorem gentles_skip (s : State) (g : Nat) (c : Cause) : Gentles s (s.skip g c) := by
  rw [State.skip]
  split
  · exact gentles_modifyGroup s g _ (fun _ => ⟨rfl, rfl, rfl, .inr rfl⟩)
      fun _ => Group.strainLaw_of_same rfl rfl rfl rfl
  · exact .refl

/-- A search counts overflows (R66, R67). -/
theorem gentles_search {plan : Plan} {cls : CallClass} {number : Digits} {order : List Nat} {seen : List Cause} {s t : State}
    {found : Found} (h : search plan cls number order seen s = some (t, found)) : Gentles s t := by
  induction order generalizing seen s with
  | nil =>
    simp only [search, Option.some.injEq, Prod.mk.injEq] at h
    rw [h.1]
  | cons position rest ih =>
    simp only [search] at h
    split at h
    · exact ih h
    · split at h
      · cases h
      · simp only [Option.some.injEq, Prod.mk.injEq] at h
        rw [h.1]
      · exact (gentles_skip s _ _).trans (ih h)

/-- The seizure of a circuit (R28, R41, R44), for a group after its hunt. -/
theorem writes_seize (s : State) (g i tag : Nat) (grp : Group) (awaits : StrainLaw s → grp.awaitsTest) :
    Writes s (s.seize g i tag grp) := by
  refine (writes_putCircuit s i _).trans (writes_putGroup_raiseTest _ g _ fun law => ?_)
  exact (awaits law).loseIdle

theorem writes_grant {s t : State} {tag p i : Nat} {cand : Candidate} (h : s.grant tag p cand = some (t, i)) :
    Writes s t := by
  simp only [State.grant, Option.bind_eq_bind, Option.bind_eq_some_iff, Option.pure_def, Option.some.injEq,
    Prod.mk.injEq] at h
  obtain ⟨grp, held, i, -, rfl, -⟩ := h
  refine .trans ?_ (gentles_grantSticky _ _ _).writes
  exact writes_seize s _ _ _ _ fun law => (strainLaw_of_group held law).awaitsTest

/-! ### Accrual -/

theorem satAdd_le (largest value amount : Nat) : satAdd largest value amount ≤ largest := Nat.min_le_left _ _

/-- Every addition to a bank keeps it in range (R139). -/
theorem Bank.inRange.addPayable {b : Bank} (h : b.inRange) (amount : Nat) : (b.addPayable amount).inRange :=
  ⟨satAdd_le _ _ _, h.2⟩

theorem Bank.inRange.addReceivable {b : Bank} (h : b.inRange) (amount : Nat) : (b.addReceivable amount).inRange :=
  ⟨h.1, satAdd_le _ _ _, h.2.2⟩

theorem Bank.inRange.addStep {b : Bank} (h : b.inRange) : b.addStep.inRange :=
  ⟨h.1, h.2.1, satAdd_le _ _ _, h.2.2.2⟩

theorem Bank.inRange.addHandover {b : Bank} (h : b.inRange) : b.addHandover.inRange :=
  ⟨h.1, h.2.1, h.2.2.1, satAdd_le _ _ _, h.2.2.2.2⟩

theorem Bank.inRange.addTransit {b : Bank} (h : b.inRange) : b.addTransit.inRange :=
  ⟨h.1, h.2.1, h.2.2.1, h.2.2.2.1, satAdd_le _ _ _⟩

/-- The account of a carrier within its ranges. -/
theorem inRange_of_account {s : State} {k : Nat} {a : Account} (h : s.account? k = some a) (law : TotalsInRange s) :
    a.inRange := law.1 _ (Table.mem_of_get? _ h)

theorem gentles_onBank {s t : State} {k : Nat} {f : Bank → Bank} (h : s.onBank k f = some t)
    (range : ∀ b, b.inRange → (f b).inRange) : Gentles s t := by
  simp only [State.onBank, Option.bind_eq_bind, Option.bind_eq_some_iff, Option.pure_def, Option.some.injEq] at h
  obtain ⟨a, held, rfl⟩ := h
  refine (Gentle.account s k _ fun law => ?_).gentles
  obtain ⟨running, closed⟩ := inRange_of_account held law
  exact ⟨range _ running, closed⟩

theorem gentles_accrueStep {s t : State} {outgoing incoming price multiplier : Nat} {c : Charged}
    (h : s.accrueStep outgoing incoming price multiplier = some (t, c)) : Gentles s t := by
  simp only [State.accrueStep, Option.bind_eq_bind, Option.bind_eq_some_iff, Option.pure_def, Option.some.injEq,
    Prod.mk.injEq] at h
  obtain ⟨a, -, s1, paid, i, -, s2, credited, rfl, -⟩ := h
  exact (gentles_onBank paid fun _ h => (h.addPayable _).addStep).trans
    (gentles_onBank credited fun _ h => h.addReceivable _)

theorem gentles_accrueAnswer {s t : State} {outgoing incoming : Nat} {v : TariffValues} {multiplier : Nat} {c : Charged}
    (h : s.accrueAnswer outgoing incoming v multiplier = some (t, c)) : Gentles s t := by
  simp only [State.accrueAnswer, Option.bind_eq_bind, Option.bind_eq_some_iff, Option.pure_def, Option.some.injEq,
    Prod.mk.injEq] at h
  obtain ⟨s1, setup, s2, credited, s3, handed, s4, taken, ⟨s5, d⟩, stepped, rfl, -⟩ := h
  exact (gentles_onBank setup fun _ h => h.addPayable _).trans <|
    (gentles_onBank credited fun _ h => h.addReceivable _).trans <|
    (gentles_onBank handed fun _ h => h.addHandover).trans <|
    (gentles_onBank taken fun _ h => h.addTransit).trans (gentles_accrueStep stepped)

/-! ### Periods and tariffs -/

theorem emptyBank_inRange : emptyBank.inRange := by decide

/-- The close of a period (R151). -/
theorem gentles_closePeriod (s : State) (trigger : PeriodTrigger) : Gentles s (s.closePeriod trigger) := by
  have closed := Gentle.accounts s (fun a => a.closedNow s.chu.period s.tmb.clock)
    fun a range => ⟨emptyBank_inRange, range.1⟩
  refine Gentles.offer (closed.gentles.tail (.period _ (s.chu.period.next s.now) fun law => ?_)) _
  · refine ⟨nofun, ?_, law.2.2⟩
    have number : s.chu.period.number ≤ Config.max32 := law.2.1
    simp only [Period.next]
    split <;> omega

/-- The begin of a hold (R152). -/
theorem gentles_holdPeriod (s : State) (trigger : PeriodTrigger) : Gentles s (s.holdPeriod trigger) :=
  Gentles.offer (Gentle.period s { s.chu.period with held := true, timer := none } fun law => ⟨fun _ => rfl, law.2⟩).gentles _

/-- A class without a schedule keeps the law of schedules. -/
theorem TariffClass.scheduleLaw_of_none {t : TariffClass} (h : t.schedule = none) (clock : Nat) : t.scheduleLaw clock := by
  intro held
  rw [h] at held
  cases held

/-- The activation of a class (R165). -/
theorem gentles_activate (trigger : TariffTrigger) (s : State) (c : Nat) : Gentles s (s.activate trigger c) := by
  rw [State.activate]
  split
  · exact .refl
  · split
    · exact .refl
    next v _ =>
      have activated := Gentle.tariff s c { active := v, pendingSet := none, schedule := none }
        fun _ => TariffClass.scheduleLaw_of_none rfl _
      exact Gentles.offer (activated.gentles.tail (.period _ { s.chu.period with tariffMark := true } fun law => law)) _

end Sys2Proof.Machine
end

section
/-! PROOFS. The handler of every request as a sequence of writes from the state it is given, and the effect of every expiry. -/

namespace Sys2Proof.Machine

/-! ### Shapes of handlers -/

/-- A request for one record: what holds of every refusal and of what is done with a record found in range holds of the answer. -/
theorem withRecord_cases {α : Type} {P : Answer → Prop} {n limit : Nat} {find : Nat → Option α} {body : List Byte}
    {s : State} {act : Nat → α → Answer} (refused : ∀ r, P (refuse s r)) (acts : ∀ i r, find i = some r → P (act i r)) :
    P (withRecord n limit find body s act) := by
  rw [withRecord]
  split
  · exact refused _
  · split
    · exact refused _
    · split
      · exact refused _
      next r found => exact acts _ r found

/-- A request for one live call: the answer is a refusal or what is done with a call whose state takes it. -/
theorem withCall_cases {P : Answer → Prop} {body : List Byte} {s : State} {taken : CallState → Bool}
    {act : Nat → Call → Option Answer} {a : Answer} (h : withCall body s taken act = some a)
    (refused : ∀ fields, P (s, fields))
    (acts : ∀ tag call, tag ≠ 0 → s.call? tag = some call → taken call.state = true → act tag call = some a → P a) :
    P a := by
  rw [withCall] at h
  split at h
  · exact Option.some.inj h ▸ refused _
  · split at h
    · exact Option.some.inj h ▸ refused _
    · split at h
      · exact Option.some.inj h ▸ refused _
      next call live =>
        split at h
        next taken => exact acts _ call ‹_› live taken h
        next => exact Option.some.inj h ▸ refused _

/-! ### Prefixes and plans -/

theorem writes_handleSetPrefix (body : List Byte) (s : State) : Writes s (handleSetPrefix body s).1 := by
  rw [handleSetPrefix]
  (repeat' split) <;> try exact .refl
  exact (Write.entry s _).writes

theorem writes_handleDelPrefix (body : List Byte) (s : State) : Writes s (handleDelPrefix body s).1 := by
  rw [handleDelPrefix]
  (repeat' split) <;> try exact .refl
  exact (Write.eraseEntry s _).writes

theorem gentles_handleSetPlan (body : List Byte) (s : State) : Gentles s (handleSetPlan body s).1 := by
  rw [handleSetPlan]
  (repeat' split) <;> try exact .refl
  exact (Gentle.plan s _ _).gentles

theorem handleReadPrefix_state (body : List Byte) (s : State) : (handleReadPrefix body s).1 = s := by
  simp only [handleReadPrefix]
  (repeat' split) <;> rfl

theorem handleReadPlan_state (body : List Byte) (s : State) : (handleReadPlan body s).1 = s :=
  withRecord_cases (P := fun a => a.1 = s) (fun _ => rfl) fun _ _ _ => rfl

/-! ### Gap control -/

theorem le_clamp {low high : Nat} (h : low ≤ high) (value : Nat) : low ≤ clamp low high value ∧ clamp low high value ≤ high := by
  rw [clamp_eq_ite h]
  (repeat' split) <;> omega

/-- The entry of an accepted SET_GAP keeps the law of gap entries (R112, R113). -/
theorem GapFields.stored_lawful (f : GapFields) (now : Nat) {slot : Nat} (h : slot < 64) : (f.stored now).lawful slot := by
  obtain ⟨low, high⟩ := le_clamp (low := 100) (high := 60000) (by decide) f.interval
  exact ⟨h, low, high, nofun⟩

theorem gentles_handleSetGap (body : List Byte) (s : State) : Gentles s (handleSetGap body s).1 := by
  rw [handleSetGap]
  split
  · exact .refl
  next f _ =>
    split
    · exact .refl
    · split
      · exact .refl
      · split
        · exact .refl
        · split
          next slot old found =>
            obtain ⟨stands, key⟩ := mem_of_findGap found
            refine (gentle_putGap s slot _ (fun canon e he same => ?_) fun law => ?_).gentles
            · exact ((gapsCanonical_iff _).mp canon).2 e he _ stands (same.trans key.symm)
            · exact f.stored_lawful s.now (law.1 _ stands).1
          next missing =>
            split
            next slot free =>
              refine (gentle_putGap s slot _ (fun _ e he same => ?_) fun _ => ?_).gentles
              · exact absurd same ((findGap_eq_none _ _).mp missing e he)
              · exact f.stored_lawful s.now ((freeSlot_eq_some _ _).mp free).1
            next => exact .refl

theorem gentles_handleDelGap (body : List Byte) (s : State) : Gentles s (handleDelGap body s).1 := by
  rw [handleDelGap]
  (repeat' split) <;> try exact .refl
  exact (gentle_eraseGap s _).gentles

theorem gentles_handleSetAutogap (body : List Byte) (s : State) : Gentles s (handleSetAutogap body s).1 := by
  rw [handleSetAutogap]
  split
  · exact .refl
  next v _ _ =>
    obtain ⟨low, high⟩ := le_clamp (low := 100) (high := 60000) (by decide) v
    exact (Gentle.autoInterval s _ low high).gentles

theorem handleReadGaps_state (body : List Byte) (s : State) : (handleReadGaps body s).1 = s := by
  rw [handleReadGaps]
  (repeat' split) <;> rfl

/-! ### Groups and circuits -/

theorem GroupConfig.clamped_ordered (c : GroupConfig) : c.clamped.i3 ≤ c.clamped.i2 ∧ c.clamped.i2 ≤ c.clamped.i1 :=
  c.clamped_thresholds_ordered

theorem wf_claimRange (g : Nat) (c : GroupConfig) (t : Table Circuit) (wf : t.wf = true) : (claimRange g c t).wf = true := by
  rw [claimRange]
  generalize List.range' c.firstCircuit c.circuitCount = l
  induction l generalizing t with
  | nil => exact wf
  | cons i l ih =>
    refine ih _ ?_
    dsimp only
    split
    · exact wf
    · exact Table.wf_put t wf i _

theorem writes_createGroup (s : State) (g : Nat) {c : GroupConfig} (ordered : c.i3 ≤ c.i2 ∧ c.i2 ≤ c.i1) :
    Writes s (s.createGroup g c) := by
  have claimed := Write.circuits s (claimRange g c (dropOwned g s.tgm.circuits))
    fun wf => wf_claimRange g c _ (Table.wf_filter _ wf _)
  exact claimed.writes.trans
    (writes_putGroup_raiseTest _ g _ fun _ => ⟨Nat.zero_le _, Nat.le_refl _, ordered⟩)

theorem writes_moveRange (s : State) (g : Nat) (old new : GroupConfig) : Writes s (s.moveRange g old new) := by
  rw [State.moveRange]
  split
  · exact (Write.circuits s _ fun wf => wf_claimRange g new _ (Table.wf_filter _ wf _)).writes
  · exact .refl

/-- A window that begins keeps the strain law: its minimum is the idle count (R43). -/
theorem Group.strainLaw.beginWindow {grp : Group} (h : grp.strainLaw) (busy now : Nat) :
    (grp.beginWindow busy now).strainLaw := ⟨h.1, h.2.1, Nat.le_refl _, h.2.2.2⟩

/-- A rewritten group awaits its raise test (R22, R42). -/
theorem Group.awaitsTest.rewritten {grp : Group} (h : grp.awaitsTest) {c : GroupConfig} (ordered : c.i3 ≤ c.i2 ∧ c.i2 ≤ c.i1)
    (idle : Nat) : (grp.rewritten c idle).awaitsTest := by
  rw [Group.rewritten]
  split
  · exact ⟨h.1, Nat.min_le_right _ _, ordered⟩
  · exact ⟨h.1, h.2.1, ordered⟩

theorem writes_rewriteGroup {s : State} {g : Nat} {grp : Group} (held : s.group? g = some grp) {c : GroupConfig}
    (ordered : c.i3 ≤ c.i2 ∧ c.i2 ≤ c.i1) : Writes s (s.rewriteGroup g grp c) := by
  refine (writes_moveRange s g grp.config c).trans (.trans (writes_putGroup_raiseTest _ g _ fun law => ?_)
    (writes_modifyGroup _ g _ fun _ h => h.beginWindow _ _))
  have kept : (s.moveRange g grp.config c).group? g = some grp := by
    rw [State.moveRange]; split <;> simpa using held
  exact (strainLaw_of_group kept law).awaitsTest.rewritten ordered _

theorem writes_handleSetGroup (body : List Byte) (s : State) : Writes s (handleSetGroup body s).1 := by
  rw [handleSetGroup]
  split
  · exact .refl
  next f _ =>
    split
    · exact .refl
    · split
      · exact writes_createGroup s _ f.config.clamped_ordered
      next grp held => exact writes_rewriteGroup held f.config.clamped_ordered

theorem writes_deleteGroup (s : State) (g : Nat) : Writes s (s.deleteGroup g) :=
  (Write.circuits s _ fun wf => Table.wf_filter _ wf _).writes.trans (Write.eraseGroup _ g).writes

theorem writes_handleDelGroup (body : List Byte) (s : State) : Writes s (handleDelGroup body s).1 :=
  withRecord_cases (P := fun a => Writes s a.1) (fun _ => .refl) fun g grp _ => by
    split
    · exact .refl
    · exact writes_deleteGroup s g

theorem handleReadGroup_state (body : List Byte) (s : State) : (handleReadGroup body s).1 = s :=
  withRecord_cases (P := fun a => a.1 = s) (fun _ => rfl) fun _ _ _ => rfl

theorem writes_releaseProbeOf (s : State) (grp : Group) : Writes s (s.releaseProbeOf grp) := by
  rw [State.releaseProbeOf]
  split
  · exact .refl
  · exact writes_modifyCall s _ _ fun _ h => h

theorem writes_handleService (body : List Byte) (s : State) : Writes s (handleService body s).1 := by
  rw [handleService]
  (repeat' split) <;> try exact .refl
  next grp held _ t _ =>
    exact .trans (writes_putGroup_same s _ held (grp.serviced t) rfl rfl rfl rfl) (writes_releaseProbeOf _ grp)

theorem writes_blockCircuit (s : State) (i : Nat) (circ : Circuit) : Writes s (s.blockCircuit i circ) := by
  rw [State.blockCircuit]
  split
  · exact (writes_putCircuit s i _).trans (writes_loseIdle_raiseTest _ _)
  · exact writes_putCircuit s i _
  · exact writes_putCircuit s i _
  · exact .refl

theorem writes_handleBlock (body : List Byte) (s : State) : Writes s (handleBlock body s).1 :=
  withRecord_cases (P := fun a => Writes s a.1) (fun _ => .refl) fun i circ _ => writes_blockCircuit s i circ

theorem writes_unblockCircuit (s : State) (i : Nat) (circ : Circuit) : Writes s (s.unblockCircuit i circ) := by
  rw [State.unblockCircuit]
  split
  · exact (writes_putCircuit s i _).trans (writes_modifyGroup _ _ _ fun _ h => h.gainIdle)
  all_goals exact writes_putCircuit s i _

theorem writes_handleUnblock (body : List Byte) (s : State) : Writes s (handleUnblock body s).1 :=
  withRecord_cases (P := fun a => Writes s a.1) (fun _ => .refl) fun i circ _ => writes_unblockCircuit s i circ

theorem handleReadCircuit_state (body : List Byte) (s : State) : (handleReadCircuit body s).1 = s := by
  rw [handleReadCircuit]
  (repeat' split) <;> rfl

/-! ### Accounts, periods and tariffs -/

theorem gentles_handleSetCarrier (body : List Byte) (s : State) : Gentles s (handleSetCarrier body s).1 := by
  rw [handleSetCarrier]
  (repeat' split) <;> try exact .refl
  next k c _ _ =>
    refine (Gentle.account s k _ fun law => ?_).gentles
    cases held : s.account? k with
    | none => exact ⟨emptyBank_inRange, emptyBank_inRange⟩
    | some a => exact (inRange_of_account held law : a.inRange)

theorem writes_handleDelCarrier (body : List Byte) (s : State) : Writes s (handleDelCarrier body s).1 :=
  withRecord_cases (P := fun a => Writes s a.1) (fun _ => .refl) fun k a _ => by
    split
    · exact .refl
    · exact (Write.eraseAccount s k).writes

theorem handleReadCarrier_state (body : List Byte) (s : State) : (handleReadCarrier body s).1 = s :=
  withRecord_cases (P := fun a => a.1 = s) (fun _ => rfl) fun _ _ _ => rfl

theorem gentles_handleSetPeriod (body : List Byte) (s : State) : Gentles s (handleSetPeriod body s).1 := by
  rw [handleSetPeriod]
  split
  · exact .refl
  next v _ _ =>
    refine Gentle.gentles ?_
    refine Gentle.period s { s.chu.period with
      length := min 1440 v,
      timer := if s.chu.period.held then s.chu.period.timer else periodTimer (min 1440 v) s.now } fun law =>
        ⟨fun held => ?_, law.2.1, Nat.min_le_left _ _⟩
    have held : s.chu.period.held = true := held
    simpa only [if_pos held] using law.1 held

theorem gentles_handleClose (body : List Byte) (s : State) : Gentles s (handleClose body s).1 := by
  rw [handleClose]
  (repeat' split)
  · exact .refl
  · exact gentles_closePeriod s _
  · exact gentles_holdPeriod s _

theorem gentles_collectBank {s : State} {k : Nat} {a : Account} (held : s.account? k = some a) :
    Gentles s (s.collectBank k a) := by
  have collected : Gentles s (s.putAccount k a.collect) :=
    (Gentle.account s k a.collect fun law => (inRange_of_account held law : a.inRange)).gentles
  rw [State.collectBank]
  split
  · exact collected.trans (gentles_closePeriod _ _)
  · exact collected

theorem gentles_handleCollect (body : List Byte) (s : State) : Gentles s (handleCollect body s).1 :=
  withRecord_cases (P := fun a => Gentles s a.1) (fun _ => .refl) fun k a held => by
    split
    · exact .refl
    · exact gentles_collectBank held

theorem gentles_handleLoadTariff (body : List Byte) (s : State) : Gentles s (handleLoadTariff body s).1 := by
  rw [handleLoadTariff]
  (repeat' split) <;> try exact .refl
  next c v _ _ unscheduled =>
    refine (Gentle.tariff s c _ fun _ => TariffClass.scheduleLaw_of_none ?_ _).gentles
    cases held : s.tariff? c with
    | none => rfl
    | some t => simpa [State.scheduleOf, held, loadedClass] using unscheduled

theorem gentles_handleScheduleTariff (body : List Byte) (s : State) : Gentles s (handleScheduleTariff body s).1 := by
  rw [handleScheduleTariff]
  (repeat' split) <;> try exact .refl
  next v pending ahead =>
    refine (Gentle.tariff s _ _ fun _ _ => ⟨by simp [pending], ?_⟩).gentles
    simp only [TariffClass.reached, decide_eq_false_iff_not]
    omega
  next => exact gentles_activate _ s _

theorem gentles_handleCancelTariff (body : List Byte) (s : State) : Gentles s (handleCancelTariff body s).1 :=
  withRecord_cases (P := fun a => Gentles s a.1) (fun _ => .refl) fun c t _ =>
    (Gentle.tariff s c { t with schedule := none } fun _ => TariffClass.scheduleLaw_of_none rfl _).gentles

theorem handleReadTariff_state (body : List Byte) (s : State) : (handleReadTariff body s).1 = s :=
  withRecord_cases (P := fun a => a.1 = s) (fun _ => rfl) fun _ _ _ => rfl

/-- A number read from n bytes is below 256 to the n (R182). -/
theorem takeNumber_lt {n v : Nat} {body rest : List Byte} (h : takeNumber n body = some (v, rest)) : v < 256 ^ n := by
  have bound : ∀ (l : List Byte), valueOf l < 256 ^ l.length := by
    intro l
    induction l with
    | nil => simp [valueOf]
    | cons b l ih =>
      have split : valueOf (b :: l) = b.toNat * 256 ^ l.length + valueOf l := by
        rw [← foldl_valueOf]; simp [valueOf]
      have byte : b.toNat + 1 ≤ 256 := b.isLt
      have := Nat.mul_le_mul_right (256 ^ l.length) byte
      rw [split, List.length_cons, Nat.pow_succ, Nat.mul_comm (256 ^ l.length) 256]
      rw [Nat.add_mul] at this
      omega
  rw [takeNumber] at h
  split at h
  next fits =>
    simp only [Option.some.injEq, Prod.mk.injEq] at h
    have := bound (body.take n)
    rwa [List.length_take, Nat.min_eq_left fits, h.1] at this
  next => cases h

theorem gentles_handleSetClock (body : List Byte) (s : State) : Gentles s (handleSetClock body s).1 := by
  rw [handleSetClock]
  split
  · exact .refl
  next v _ read =>
    have := takeNumber_lt read
    exact (Gentle.clock s v _ (by simp only [Config.max32]; omega)).gentles

end Sys2Proof.Machine
end

section
/-! PROOFS. What a report of a call event does to the group of its circuit (R35, R36, R82, R103 to R107). -/

namespace Sys2Proof.Machine

/-! ### One group edited -/

/-- A state differs from another in one group and in the advisories offered, given whole. -/
structure Edits (s t : State) (g : Nat) (after : Group) (offered : List Advisory) : Prop where
  frame : t = { s with lif := offered.foldl Lif.offer s.lif, tgm := { s.tgm with groups := t.tgm.groups } }
  group : t.group? g = some after
  others : ∀ h, h ≠ g → t.group? h = s.group? h

namespace Edits

theorem refl {s : State} {g : Nat} {grp : Group} (held : s.group? g = some grp) : Edits s s g grp [] :=
  ⟨rfl, held, fun _ _ => rfl⟩

theorem put (s : State) (g : Nat) (grp : Group) : Edits s (s.putGroup g grp) g grp [] :=
  ⟨rfl, State.group_putGroup_self s g grp, fun h ne => State.group_putGroup_ne s g grp h ne⟩

theorem modify {s : State} {g : Nat} {grp : Group} (held : s.group? g = some grp) (f : Group → Group) :
    Edits s (s.modifyGroup g f) g (f grp) [] := by
  rw [State.modifyGroup_of_group held]
  exact put s g (f grp)

theorem trans {s t u : State} {g : Nat} {a b : Group} {as bs : List Advisory} (h : Edits s t g a as)
    (k : Edits t u g b bs) : Edits s u g b (as ++ bs) := by
  refine ⟨?_, k.group, fun j ne => (k.others j ne).trans (h.others j ne)⟩
  have first := h.frame
  have second := k.frame
  rw [List.foldl_append]
  rw [first] at second
  exact second

theorem offer {s t : State} {g : Nat} {grp : Group} {as : List Advisory} (h : Edits s t g grp as) (a : Advisory) :
    Edits s (t.offer a) g grp (as ++ [a]) :=
  h.trans ⟨rfl, h.group, fun _ _ => rfl⟩

theorem now {s t : State} {g : Nat} {grp : Group} {as : List Advisory} (h : Edits s t g grp as) : t.now = s.now := by
  rw [h.frame]; rfl

end Edits

/-! ### The steps of a report -/

/-- The group after step 3 of R103. -/
def Group.afterFaults (grp : Group) (ev : CallEvent) (now : Nat) : Group :=
  match ev.faultEffect with
  | .keep => grp
  | .reset => { grp with faultCount := 0 }
  | .rise => if grp.faultsSuspend then grp.suspendedAt now else { grp with faultCount := grp.risenFaults }

/-- The SUSPENDED advisory of step 3 of R103 (R36, R100). -/
def Group.faultsOffered (grp : Group) (g : Nat) (ev : CallEvent) : List Advisory :=
  if ev.faultEffect = .rise ∧ grp.faultsSuspend = true then [.suspended g .faultRun grp.config.suspensionCount] else []

theorem countFaults_edits {s : State} {g : Nat} {grp : Group} (held : s.group? g = some grp) (ev : CallEvent) :
    Edits s (s.countFaults g grp ev) g (grp.afterFaults ev s.now) (grp.faultsOffered g ev) := by
  rw [State.countFaults, Group.afterFaults, Group.faultsOffered]
  cases ev.faultEffect with
  | keep => exact .refl held
  | reset => exact .put s g _
  | rise =>
    by_cases suspends : grp.faultsSuspend = true
    · rw [if_pos suspends, if_pos suspends, if_pos ⟨rfl, suspends⟩]
      exact (Edits.put s g _).offer _
    · rw [if_neg suspends, if_neg suspends, if_neg fun h => suspends h.2]
      exact .put s g _

/-- The group after step 4 of R103, by the service state held when the report is taken. -/
def Group.afterEvidence (grp : Group) (held : ServiceState) (e : Evidence) (now : Nat) : Group :=
  match e, held with
  | .success, .reopenFirst => { grp with service := .reopenQuiet, tqTimer := some (now + msOfSeconds grp.config.tq) }
  | .success, .reopenSecond => grp.restored
  | .failure, .reopenQuiet => { grp with service := .reopenFirst, tqTimer := none }
  | .failure, .reopenSecond => { grp with service := .reopenFirst }
  | _, _ => grp

/-- The RESTORED advisory of step 4 of R103 (R107). -/
def Group.evidenceOffered (grp : Group) (g : Nat) (held : ServiceState) (e : Evidence) : List Advisory :=
  if e = .success ∧ held = .reopenSecond then [.restored g grp.level] else []

theorem applyEvidence_edits {s : State} {g : Nat} {grp : Group} (stands : s.group? g = some grp) (held : ServiceState)
    (e : Evidence) :
    Edits s (s.applyEvidence g held e) g (grp.afterEvidence held e s.now) (grp.evidenceOffered g held e) := by
  cases e with
  | neither => exact .refl stands
  | success =>
    cases held with
    | reopenFirst => exact .modify stands _
    | reopenSecond =>
      have restores : s.applyEvidence g .reopenSecond .success = (s.putGroup g grp.restored).offer (.restored g grp.level) := by
        simp only [State.applyEvidence, stands]
      rw [restores]
      exact (Edits.put s g _).offer _
    | _ => exact .refl stands
  | failure =>
    cases held with
    | reopenQuiet => exact .modify stands _
    | reopenSecond => exact .modify stands _
    | _ => exact .refl stands

/-- A change of a group and a change of a call do not see each other. -/
theorem modifyGroup_modifyCall (s : State) (g tag : Nat) (f : Group → Group) (k : Call → Call) :
    (s.modifyCall tag k).modifyGroup g f = (s.modifyGroup g f).modifyCall tag k := by
  rw [State.modifyGroup, State.modifyCall_group]
  cases held : s.group? g with
  | none => rw [State.modifyGroup_of_none held]
  | some grp =>
    rw [State.modifyGroup_of_group held, State.modifyCall, State.modifyCall, State.putGroup_call]
    cases s.call? tag <;> rfl

/-- The group that a report leaves. -/
def Group.reported (grp : Group) (tag : Nat) (ev : CallEvent) (now : Nat) : Group :=
  let taken := (grp.afterFaults ev now).afterEvidence grp.service (ev.evidence (decide (grp.probe = some tag))) now
  { taken with
    probe := if grp.probe = some tag then none else taken.probe,
    window := if ev = .answer then taken.countAnswer.window else taken.window }

/-- The advisories that a report offers. -/
def Group.reportOffered (grp : Group) (tag g : Nat) (ev : CallEvent) : List Advisory :=
  grp.faultsOffered g ev ++ grp.evidenceOffered g grp.service (ev.evidence (decide (grp.probe = some tag)))

theorem Group.afterFaults_level (grp : Group) (ev : CallEvent) (now : Nat) : (grp.afterFaults ev now).level = grp.level := by
  rw [Group.afterFaults]
  (repeat' split) <;> rfl

/-- Everything a report does: one group edited, and the probe flag of the call cleared when it was the group's probe. -/
theorem report_eq {s : State} {g : Nat} {grp : Group} (held : s.group? g = some grp) (tag : Nat) (ev : CallEvent) :
    ∃ u, Edits s u g (grp.reported tag ev s.now) (grp.reportOffered tag g ev) ∧
      s.report tag g ev =
        some (if grp.probe = some tag then u.modifyCall tag fun c => { c with probe := false } else u) := by
  have faults := countFaults_edits held ev
  have evidence := applyEvidence_edits faults.group grp.service (ev.evidence (decide (grp.probe = some tag)))
  have offered : (grp.afterFaults ev s.now).evidenceOffered g grp.service (ev.evidence (decide (grp.probe = some tag))) =
      grp.evidenceOffered g grp.service (ev.evidence (decide (grp.probe = some tag))) := by
    rw [Group.evidenceOffered, Group.evidenceOffered, Group.afterFaults_level]
  rw [faults.now, offered] at evidence
  have both := faults.trans evidence
  simp only [State.report, held, Option.bind_eq_bind, Option.bind_some, Option.pure_def, decide_eq_true_eq]
  rw [Group.reported, Group.reportOffered]
  generalize (s.countFaults g grp ev).applyEvidence g grp.service (ev.evidence (decide (grp.probe = some tag))) = taken
    at both ⊢
  generalize (grp.afterFaults ev s.now).afterEvidence grp.service (ev.evidence (decide (grp.probe = some tag))) s.now =
    last at both ⊢
  by_cases isProbe : grp.probe = some tag
  · have ended := both.trans (.modify both.group fun grp => { grp with probe := none })
    rw [List.append_nil] at ended
    by_cases answer : ev = .answer
    · have answered := ended.trans (.modify ended.group Group.countAnswer)
      rw [List.append_nil] at answered
      simp only [if_pos isProbe, if_pos answer, State.endProbe, modifyGroup_modifyCall]
      exact ⟨_, answered, rfl⟩
    · simp only [if_pos isProbe, if_neg answer, State.endProbe]
      exact ⟨_, ended, rfl⟩
  · by_cases answer : ev = .answer
    · have answered := both.trans (.modify both.group Group.countAnswer)
      rw [List.append_nil] at answered
      simp only [if_neg isProbe, if_pos answer]
      exact ⟨_, answered, rfl⟩
    · simp only [if_neg isProbe, if_neg answer]
      exact ⟨_, both, rfl⟩

/-! ### The statement -/

/-- Settles O33: the report edits the group and clears the probe flag; each field of the group is read off by the kind of event. -/
theorem callReportActsOnGroup : Obligations.CallReportActsOnGroup := by
  unfold Obligations.CallReportActsOnGroup
  intro s tag g ev grp isProbe success failure suspends restored held probeIff successIff failureIff suspendsIff restoredIff
  obtain ⟨u, edits, reported⟩ := report_eq held tag ev
  have isProbeEq : isProbe = decide (grp.probe = some tag) := by rw [Bool.eq_iff_iff, probeIff, decide_eq_true_eq]
  have successEq : success = decide (ev.evidence isProbe = .success) := by
    rw [Bool.eq_iff_iff, successIff, decide_eq_true_eq]
    cases ev <;> cases isProbe <;> simp [CallEvent.evidence]
  have failureEq : failure = decide (ev.faultEffect = .rise) := by
    rw [Bool.eq_iff_iff, failureIff, decide_eq_true_eq]
    cases ev <;> simp [CallEvent.faultEffect]
  have suspendsEq : suspends = (decide (ev.faultEffect = .rise) && grp.faultsSuspend) := by
    rw [Bool.eq_iff_iff, suspendsIff, failureEq, Bool.and_eq_true, Group.faultsSuspend, Bool.and_eq_true, decide_eq_true_eq,
      decide_eq_true_eq, decide_eq_true_eq]
    rfl
  have restoredEq : restored = (success && decide (grp.service = .reopenSecond)) := by
    rw [Bool.eq_iff_iff, restoredIff, Bool.and_eq_true, decide_eq_true_eq]
  refine ⟨_, reported, ?frame, ?lif, ?group, ?others, ?calls⟩
  case frame =>
    split
    · rw [State.modifyCall_eq, edits.frame]
    · rw [edits.frame]
  case others =>
    intro h ne
    split
    · rw [State.modifyCall_group, edits.others h ne]
    · exact edits.others h ne
  case calls =>
    intro other
    have calls : u.call? other = s.call? other := by rw [edits.frame]; rfl
    simp only [isProbeEq, decide_eq_true_eq]
    split
    next probe => rw [State.call_modifyCall, calls]; simp [probe]
    next probe => rw [calls]; simp [probe]
  case lif =>
    have lif : (if grp.probe = some tag then u.modifyCall tag fun c => { c with probe := false } else u).lif =
        (grp.reportOffered tag g ev).foldl Lif.offer s.lif := by
      split
      · rw [State.modifyCall_lif, edits.frame]
      · rw [edits.frame]
    rw [lif, Group.reportOffered, Group.faultsOffered, Group.evidenceOffered, suspendsEq, restoredEq, successEq, isProbeEq]
    congr 1
    by_cases rise : ev.faultEffect = .rise
    · have none : ev.evidence (decide (grp.probe = some tag)) ≠ .success := by cases ev <;> simp_all [CallEvent.faultEffect, CallEvent.evidence]
      simp [rise, none]
    · simp [rise]
  case group =>
    have group : (if grp.probe = some tag then u.modifyCall tag fun c => { c with probe := false } else u).group? g =
        some (grp.reported tag ev s.now) := by
      split
      · rw [State.modifyCall_group, edits.group]
      · exact edits.group
    rw [group, suspendsEq, restoredEq, successEq, failureEq, isProbeEq, Group.reported]
    clear isProbeEq successEq failureEq suspendsEq restoredEq probeIff successIff failureIff suspendsIff restoredIff
      edits reported group
    have max32 : Config.max32 = 4294967295 := rfl
    congr 1
    cases ev
    case progress | answer | farBusy =>
      by_cases probe : grp.probe = some tag
      · cases service : grp.service <;>
          simp [probe, service, CallEvent.faultEffect, CallEvent.evidence, Group.afterFaults, Group.afterEvidence,
            Group.restored, msOfSeconds, Group.countAnswer, satAdd, max32, State.now]
      · simp [probe, CallEvent.faultEffect, CallEvent.evidence, Group.afterFaults, Group.afterEvidence, Group.countAnswer,
          satAdd, max32]
    case farCongestion | clear =>
      simp [CallEvent.faultEffect, CallEvent.evidence, Group.afterFaults, Group.afterEvidence]
    case circuitFault | supervision =>
      by_cases suspends : grp.faultsSuspend = true
      · have inService : grp.service = .inService := by
          simp only [Group.faultsSuspend, Bool.and_eq_true, decide_eq_true_eq] at suspends
          exact suspends.1
        simp [suspends, inService, CallEvent.faultEffect, CallEvent.evidence, Group.afterFaults, Group.afterEvidence,
          Group.suspendedAt, msOfSeconds, State.now]
      · cases service : grp.service <;>
          simp [suspends, service, CallEvent.faultEffect, CallEvent.evidence, Group.afterFaults, Group.afterEvidence,
            Group.risenFaults, satAdd]

end Sys2Proof.Machine
end

section
/-! PROOFS. What the operations on calls leave of the other records, and the requests and expiries of calls as sequences of writes. -/

namespace Sys2Proof.Machine

/-! ### Frames -/

/-- A release changes TGM alone (R29). -/
theorem release_eq {s t : State} {i : Nat} (h : s.release i = some t) : t = { s with tgm := t.tgm } := by
  simp only [State.release, Option.bind_eq_bind, Option.bind_eq_some_iff] at h
  obtain ⟨circ, -, grp, -, h⟩ := h
  split at h
  · split at h <;> rw [Option.pure_def, Option.some.injEq] at h <;> subst h
    · rw [State.endGuard]
      split
      · rfl
      · rw [State.modifyGroup_eq]; rfl
    · rfl
  · cases h

/-- A report changes LIF, the group table and the call table alone (R103). -/
theorem report_frame {s t : State} {tag g : Nat} {ev : CallEvent} (h : s.report tag g ev = some t) :
    t = { s with lif := t.lif, tgm := { s.tgm with groups := t.tgm.groups }, ctb := t.ctb } := by
  cases held : s.group? g with
  | none => simp [State.report, held] at h
  | some grp =>
    obtain ⟨u, edits, reported⟩ := report_eq held tag ev
    rw [reported, Option.some.injEq] at h
    subst h
    split
    · rw [State.modifyCall_eq, edits.frame]
    · rw [edits.frame]

/-- A report changes no call but for the probe flag of the one reported. -/
theorem report_call {s t : State} {tag g : Nat} {ev : CallEvent} (h : s.report tag g ev = some t) (other : Nat) :
    t.call? other = s.call? other ∨
      (other = tag ∧ t.call? other = (s.call? other).map fun c => { c with probe := false }) := by
  cases held : s.group? g with
  | none => simp [State.report, held] at h
  | some grp =>
    obtain ⟨u, edits, reported⟩ := report_eq held tag ev
    have calls : u.call? other = s.call? other := by rw [edits.frame]; rfl
    rw [reported, Option.some.injEq] at h
    subst h
    split
    · rw [State.call_modifyCall, calls]
      by_cases own : other = tag
      · exact .inr ⟨own, by simp [own]⟩
      · exact .inl (by simp [own])
    · exact .inl calls

/-- The sticky positions stand in the plan table (R10). -/
theorem advanceSticky_eq (s : State) (p position : Nat) :
    s.advanceSticky p position = { s with rsl := { s.rsl with plans := (s.advanceSticky p position).rsl.plans } } := by
  rw [State.advanceSticky]; split <;> rfl

theorem grantSticky_eq (s : State) (p position : Nat) :
    s.grantSticky p position = { s with rsl := { s.rsl with plans := (s.grantSticky p position).rsl.plans } } := by
  rw [State.grantSticky]; split <;> rfl

theorem failSticky_eq (s : State) (call : Call) (ev : CallEvent) :
    s.failSticky call ev = { s with rsl := { s.rsl with plans := (s.failSticky call ev).rsl.plans } } := by
  rw [State.failSticky]
  split
  · rfl
  · rw [advanceSticky_eq]

/-- The seizure of a circuit, with everything it writes given (R28, R41, R44). -/
theorem seize_eq (s : State) (g i tag : Nat) (grp : Group) :
    s.seize g i tag grp =
      (((s.putCircuit i { owner := g, state := .busy tag, blockPending := false }).putGroup g
        ((grp.loseIdle.countSeizure
          ((s.putCircuit i { owner := g, state := .busy tag, blockPending := false }).busyCount g)).tested s.now)).offerAll
        (strainOffered g grp.level (max grp.level (grp.config.raiseLevel (grp.idleCount - 1))))) :=
  raiseTest_putGroup _ g _

/-- A grant changes TGM, the plans and LIF alone (R68). -/
theorem grant_frame {s t : State} {tag p i : Nat} {cand : Candidate} (h : s.grant tag p cand = some (t, i)) :
    t = { s with lif := t.lif, tgm := t.tgm, rsl := { s.rsl with plans := t.rsl.plans } } := by
  simp only [State.grant, Option.bind_eq_bind, Option.bind_eq_some_iff, Option.pure_def, Option.some.injEq,
    Prod.mk.injEq] at h
  obtain ⟨grp, -, i, -, rfl, -⟩ := h
  rw [grantSticky_eq, seize_eq]
  rfl

/-! ### Accrual -/

theorem onBank_frame {s t : State} {k : Nat} {f : Bank → Bank} (h : s.onBank k f = some t) :
    t = { s with chu := { s.chu with accounts := t.chu.accounts } } := by
  simp only [State.onBank, Option.bind_eq_bind, Option.bind_eq_some_iff, Option.pure_def, Option.some.injEq] at h
  obtain ⟨a, -, rfl⟩ := h
  rfl

theorem accrueStep_frame {s t : State} {outgoing incoming price multiplier : Nat} {c : Charged}
    (h : s.accrueStep outgoing incoming price multiplier = some (t, c)) :
    t = { s with chu := { s.chu with accounts := t.chu.accounts } } := by
  simp only [State.accrueStep, Option.bind_eq_bind, Option.bind_eq_some_iff, Option.pure_def, Option.some.injEq,
    Prod.mk.injEq] at h
  obtain ⟨a, -, s1, paid, i, -, s2, credited, rfl, -⟩ := h
  rw [onBank_frame credited, onBank_frame paid]

/-! ### The requests of calls -/

theorem writes_progressCall {s : State} {tag : Nat} {call : Call} {a : Answer} (h : s.progressCall tag call = some a) :
    Writes s a.1 := by
  simp only [State.progressCall, Option.bind_eq_bind, Option.bind_eq_some_iff, Option.pure_def, Option.some.injEq] at h
  obtain ⟨r, reported, rfl⟩ := h
  exact (writes_report reported).trans (writes_modifyCall r tag (fun c => { c with state := .alerting, supervision := none })
    fun _ h => h)

/-- The totals of an answered call hold at their largest values (R140). -/
theorem Call.inRange_answeredWith (c : Call) (clock expiry : Nat) (amounts : Charged) :
    (c.answeredWith clock expiry amounts).inRange := 
  ⟨satAdd_le _ _ _, satAdd_le _ _ _, (by decide : 1 ≤ Config.max32)⟩

theorem Call.inRange_charged (c : Call) (expiry : Nat) (amounts : Charged) : (c.charged expiry amounts).inRange :=
  ⟨satAdd_le _ _ _, satAdd_le _ _ _, satAdd_le _ _ _⟩

theorem writes_answerCall {s : State} {tag : Nat} {call : Call} {a : Answer} (h : s.answerCall tag call = some a) :
    Writes s a.1 := by
  simp only [State.answerCall, Option.bind_eq_bind, Option.bind_eq_some_iff, Option.pure_def, Option.some.injEq] at h
  obtain ⟨r, reported, t, -, outgoing, -, ⟨u, amounts⟩, accrued, c, -, rfl⟩ := h
  exact ((writes_report reported).trans (gentles_accrueAnswer accrued).writes).tail
    (.call u tag _ fun _ => c.inRange_answeredWith _ _ _)

theorem writes_finalFail (s : State) (tag : Nat) (call : Call) (cause : Cause) :
    Writes s (s.finalFail tag call cause).1 := (Write.eraseCall s tag).writes

theorem writes_regrant {s : State} {tag : Nat} {call : Call} {cand : Candidate} {a : Answer} {live : Call}
    (stands : s.call? tag = some live) (totals : live.inRange → call.inRange) (h : s.regrant tag call cand = some a) :
    Writes s a.1 := by
  simp only [State.regrant, Option.bind_eq_bind, Option.bind_eq_some_iff, Option.pure_def, Option.some.injEq] at h
  obtain ⟨grp, -, ⟨t, i⟩, granted, rfl⟩ := h
  have kept : t.call? tag = some live := by rw [grant_frame granted]; exact stands
  exact (writes_grant granted).trans (writes_putCall_of_live kept _ totals)

theorem writes_continueCall {s : State} {tag : Nat} {call : Call} {plan : Plan} {a : Answer} {live : Call}
    (stands : s.call? tag = some live) (totals : live.inRange → call.inRange) (h : s.continueCall tag call plan = some a) :
    Writes s a.1 := by
  simp only [State.continueCall, Option.bind_eq_bind, Option.bind_eq_some_iff] at h
  obtain ⟨⟨t, found⟩, searched, h⟩ := h
  have kept : t.call? tag = some live := by rw [search_eq _ _ _ _ _ _ _ _ searched]; exact stands
  refine (gentles_search searched).writes.trans ?_
  cases found with
  | taken cand => exact writes_regrant kept totals h
  | exhausted conditions =>
    rw [Option.pure_def, Option.some.injEq] at h
    subst h
    exact writes_finalFail t tag call _

theorem gentles_failSticky (s : State) (call : Call) (ev : CallEvent) : Gentles s (s.failSticky call ev) := by
  rw [State.failSticky]
  split
  · exact .refl
  · exact gentles_advanceSticky s _ _

/-- The call stands, as it was but for its probe flag, behind the release of its circuit. -/
theorem reportRelease_call {s t : State} {tag g i : Nat} {ev : CallEvent} {call : Call} (live : s.call? tag = some call)
    (h : s.reportRelease tag g i ev = some t) : t.call? tag = some call ∨ t.call? tag = some { call with probe := false } := by
  simp only [State.reportRelease, Option.bind_eq_bind, Option.bind_eq_some_iff] at h
  obtain ⟨r, reported, released⟩ := h
  have kept : t.call? tag = r.call? tag := by rw [release_eq released]; rfl
  rw [kept]
  rcases report_call reported tag with same | ⟨-, cleared⟩
  · exact .inl (same.trans live)
  · exact .inr (by rw [cleared, live]; rfl)

theorem writes_failCall {s : State} {tag : Nat} {call : Call} {ev : CallEvent} {cause : Cause} {reroute : Bool} {a : Answer}
    (live : s.call? tag = some call) (h : s.failCall tag call ev cause reroute = some a) : Writes s a.1 := by
  simp only [State.failCall, Option.bind_eq_bind, Option.bind_eq_some_iff] at h
  obtain ⟨r, released, plan, -, h⟩ := h
  have stands : ∃ c, (r.failSticky call ev).call? tag = some c ∧ (c.inRange → call.inRange) := by
    have kept : (r.failSticky call ev).call? tag = r.call? tag := by rw [failSticky_eq]; rfl
    rw [kept]
    rcases reportRelease_call live released with same | cleared
    · exact ⟨_, same, id⟩
    · exact ⟨_, cleared, id⟩
  obtain ⟨c, stands, totals⟩ := stands
  refine ((writes_reportRelease released).trans (gentles_failSticky r call ev).writes).trans ?_
  split at h
  · exact writes_continueCall stands totals h
  · rw [Option.pure_def, Option.some.injEq] at h
    subst h
    exact writes_finalFail _ tag call cause

theorem writes_clearCall {s : State} {tag : Nat} {call : Call} {a : Answer} (h : s.clearCall tag call = some a) :
    Writes s a.1 := by
  simp only [State.clearCall, Option.bind_eq_bind, Option.bind_eq_some_iff, Option.pure_def, Option.some.injEq] at h
  obtain ⟨r, released, rfl⟩ := h
  exact (writes_reportRelease released).trans (Write.eraseCall r tag).writes

theorem writes_handleProgress {body : List Byte} {s : State} {a : Answer} (h : handleProgress body s = some a) :
    Writes s a.1 := withCall_cases (P := fun a => Writes s a.1) h (fun _ => .refl) fun _ _ _ _ _ => writes_progressCall

theorem writes_handleAnswer {body : List Byte} {s : State} {a : Answer} (h : handleAnswer body s = some a) :
    Writes s a.1 := withCall_cases (P := fun a => Writes s a.1) h (fun _ => .refl) fun _ _ _ _ _ => writes_answerCall

theorem writes_handleClear {body : List Byte} {s : State} {a : Answer} (h : handleClear body s = some a) :
    Writes s a.1 := withCall_cases (P := fun a => Writes s a.1) h (fun _ => .refl) fun _ _ _ _ _ => writes_clearCall

/-- FAIL is refused, or acts on a live call whose state takes it (R79). -/
theorem handleFail_cases {P : Answer → Prop} {body : List Byte} {s : State} {a : Answer} (h : handleFail body s = some a)
    (refused : ∀ fields, P (s, fields))
    (acts : ∀ tag call ev cause reroute, tag ≠ 0 → s.call? tag = some call → call.state.takesAnswer = true →
      s.failCall tag call ev cause reroute = some a → P a) : P a := by
  rw [handleFail] at h
  split at h
  · exact Option.some.inj h ▸ refused _
  · split at h
    · exact Option.some.inj h ▸ refused _
    · split at h
      · exact Option.some.inj h ▸ refused _
      next valid =>
        split at h
        · exact Option.some.inj h ▸ refused _
        next call live =>
          split at h
          next taken => exact acts _ call _ _ _ (by simp at valid; exact valid.1) live taken h
          next => exact Option.some.inj h ▸ refused _

theorem writes_handleFail {body : List Byte} {s : State} {a : Answer} (h : handleFail body s = some a) :
    Writes s a.1 :=
  handleFail_cases (P := fun a => Writes s a.1) h (fun _ => .refl) fun _ _ _ _ _ _ live _ => writes_failCall live

theorem handleReadCall_state (body : List Byte) (s : State) : (handleReadCall body s).1 = s := by
  rw [handleReadCall]
  (repeat' split) <;> rfl

end Sys2Proof.Machine
end

section
/-! PROOFS. Gap admission (R117): which entry is tested, what an admission and a refusal leave of the table, and SEEK as a sequence of
writes. -/

namespace Sys2Proof.Machine

/-! ### The entry that leads a number -/

theorem leads_iff (ds number : Digits) : leads ds number = true ↔ ds <+: number := List.isPrefixOf_iff_prefix

/-- An entry leads a number by the length of its digits, when they lead it. -/
theorem Gap.leadLength_eq_some (number : Digits) (g : Gap) (n : Nat) :
    g.leadLength number = some n ↔ ∃ ds, g.key = .digits ds ∧ ds <+: number ∧ ds.length = n := by
  cases h : g.key with
  | digits ds =>
    simp only [Gap.leadLength, h, GapKey.digits?, ← leads_iff]
    split <;> simp_all
  | plan p => simp [Gap.leadLength, h, GapKey.digits?]

/-- A table with an entry that leads the number yields one. -/
theorem longestGap_ne_none {number : Digits} {t : Table Gap} {d : Nat × Gap} {m : Nat} (hd : d ∈ t)
    (hm : d.2.leadLength number = some m) : longestGap number t ≠ none := by
  induction t with
  | nil => cases hd
  | cons e t ih =>
    obtain ⟨i, g⟩ := e
    simp only [longestGap]
    rcases List.mem_cons.mp hd with rfl | hd
    · simp only at hm
      rw [hm]
      (repeat' split) <;> simp_all
    · (repeat' split) <;> simp_all

/-- The entry found leads the number, and no entry of the table leads it by more digits. -/
theorem longestGap_eq_some {number : Digits} {t : Table Gap} {e : Nat × Gap} (h : longestGap number t = some e) :
    e ∈ t ∧ ∃ n, e.2.leadLength number = some n ∧ ∀ d ∈ t, ∀ m, d.2.leadLength number = some m → m ≤ n := by
  induction t generalizing e with
  | nil => cases h
  | cons d t ih =>
    obtain ⟨i, g⟩ := d
    simp only [longestGap] at h
    split at h
    next gNone =>
      obtain ⟨stands, n, lead, most⟩ := ih h
      refine ⟨List.mem_cons_of_mem _ stands, n, lead, fun d hd m hm => ?_⟩
      rcases List.mem_cons.mp hd with rfl | hd
      · rw [gNone] at hm; cases hm
      · exact most d hd m hm
    next n gLead none =>
      obtain rfl := Option.some.inj h
      refine ⟨List.mem_cons_self, n, gLead, fun d hd m hm => ?_⟩
      rcases List.mem_cons.mp hd with rfl | hd
      · rw [gLead] at hm; exact Nat.le_of_eq (Option.some.inj hm).symm
      · exact absurd none (longestGap_ne_none hd hm)
    next n j k gLead rest =>
      obtain ⟨stands, n', lead, most⟩ := ih rest
      simp only at lead
      rw [lead, Option.getD_some] at h
      split at h
      next longer =>
        obtain rfl := Option.some.inj h
        refine ⟨List.mem_cons_self, n, gLead, fun d hd m hm => ?_⟩
        rcases List.mem_cons.mp hd with rfl | hd
        · rw [gLead] at hm; exact Nat.le_of_eq (Option.some.inj hm).symm
        · exact Nat.le_trans (most d hd m hm) (Nat.le_of_lt longer)
      next notLonger =>
        obtain rfl := Option.some.inj h
        refine ⟨List.mem_cons_of_mem _ stands, n', lead, fun d hd m hm => ?_⟩
        rcases List.mem_cons.mp hd with rfl | hd
        · rw [gLead] at hm
          have := Option.some.inj hm
          omega
        · exact most d hd m hm

/-! ### Rewriting entries -/

/-- A record at another key stands after a write. -/
theorem Table.mem_put_of_ne {α : Type} {t : Table α} {e : Nat × α} (h : e ∈ t) {k : Nat} (ne : e.1 ≠ k) (v : α) :
    e ∈ t.put k v := by
  induction t with
  | nil => cases h
  | cons d t ih =>
    simp only [Table.put]
    rcases List.mem_cons.mp h with rfl | h
    · (repeat' split) <;> simp_all
    · (repeat' split) <;> simp_all

/-- An entry found to lead a number is keyed by digits, so it is not a plan's entry. -/
theorem key_of_longestGap {number : Digits} {t : Table Gap} {e : Nat × Gap} (h : longestGap number t = some e) :
    ∃ ds, e.2.key = .digits ds := by
  obtain ⟨-, n, lead, -⟩ := longestGap_eq_some h
  obtain ⟨ds, key, -⟩ := (Gap.leadLength_eq_some _ _ _).mp lead
  exact ⟨ds, key⟩

/-- In a canonical table the entries of two keys stand in two slots. -/
theorem slot_ne_of_key_ne {t : Table Gap} (wf : t.wf = true) {a b : Nat × Gap} (ha : a ∈ t) (hb : b ∈ t)
    (key : a.2.key ≠ b.2.key) : a.1 ≠ b.1 := by
  intro slot
  have readA := Table.get?_of_mem t wf ha
  have readB := Table.get?_of_mem t wf hb
  rw [slot, readB] at readA
  exact key (congrArg Gap.key (Option.some.inj readA)).symm

/-- The entry that leads a number and a plan's entry stand in two slots. -/
theorem slots_differ {t : Table Gap} (wf : t.wf = true) {number : Digits} {p : Nat} {d e : Nat × Gap}
    (lead : longestGap number t = some d) (named : findGap (.plan p) t = some e) : d.1 ≠ e.1 := by
  obtain ⟨eStands, eKey⟩ := mem_of_findGap named
  obtain ⟨ds, dKey⟩ := key_of_longestGap lead
  refine slot_ne_of_key_ne wf (longestGap_eq_some lead).1 eStands ?_
  rw [eKey, dKey]
  exact nofun

/-- An entry keeps its key, and with it the table its form. -/
theorem gapsCanonical_putAgain {t : Table Gap} (canon : gapsCanonical t) {slot : Nat} {old : Gap} (stands : (slot, old) ∈ t)
    {g : Gap} (key : g.key = old.key) : gapsCanonical (t.put slot g) :=
  gapsCanonical_put canon slot g fun e he same => ((gapsCanonical_iff t).mp canon).2 e he _ stands (same.trans key)

/-- The entries that an admission leaves: each is an entry of the table, with its time of next admission and its counts moved on. -/
def Gap.admits (after before : Gap) : Prop :=
  ∃ nextAdmit admitted refused, after = { before with nextAdmit := nextAdmit, admitted := admitted, refused := refused }

theorem Gap.admits.refl (g : Gap) : g.admits g := ⟨_, _, _, rfl⟩

theorem Gap.admits.lawful {after before : Gap} (h : after.admits before) {slot : Nat} (law : before.lawful slot) :
    after.lawful slot := by
  obtain ⟨_, _, _, rfl⟩ := h
  exact law

/-- A canonical table after a call's admission or refusal has the same form and the same laws (R117). -/
theorem admission_keeps (now : Nat) (number : Digits) (p : Nat) (t : Table Gap) :
    (gapsCanonical t → gapsCanonical (admission now number p t).2) ∧
      ∀ e ∈ (admission now number p t).2, ∃ g, (e.1, g) ∈ t ∧ e.2.admits g := by
  have unchanged : ∀ e ∈ t, ∃ g, (e.1, g) ∈ t ∧ e.2.admits g := fun e he => ⟨e.2, he, .refl _⟩
  have rewritten : ∀ {d : Nat × Gap} {g : Gap} {u : Table Gap}, d ∈ t → g.admits d.2 →
      (∀ e ∈ u, ∃ g, (e.1, g) ∈ t ∧ e.2.admits g) → ∀ e ∈ u.put d.1 g, ∃ g, (e.1, g) ∈ t ∧ e.2.admits g := by
    intro d g u hd hg hu e he
    rcases Table.mem_put u he with rfl | he
    · exact ⟨d.2, hd, hg⟩
    · exact hu e he
  have refused : ∀ d ∈ t, (gapsCanonical t → gapsCanonical (t.put d.1 d.2.refused1)) ∧
      ∀ e ∈ t.put d.1 d.2.refused1, ∃ g, (e.1, g) ∈ t ∧ e.2.admits g := fun d hd =>
    ⟨fun canon => gapsCanonical_putAgain canon hd rfl, rewritten hd ⟨_, _, _, rfl⟩ unchanged⟩
  have consumed : ∀ d ∈ t, (gapsCanonical t → gapsCanonical (t.put d.1 (d.2.admitted1 now))) ∧
      ∀ e ∈ t.put d.1 (d.2.admitted1 now), ∃ g, (e.1, g) ∈ t ∧ e.2.admits g := fun d hd =>
    ⟨fun canon => gapsCanonical_putAgain canon hd rfl, rewritten hd ⟨_, _, _, rfl⟩ unchanged⟩
  rw [admission]
  split
  · cases lead : longestGap number t with
    | none => exact ⟨id, unchanged⟩
    | some d => exact refused d (longestGap_eq_some lead).1
  · split
    · cases named : findGap (.plan p) t with
      | none => exact ⟨id, unchanged⟩
      | some d => exact refused d (mem_of_findGap named).1
    · cases lead : longestGap number t with
      | none =>
        cases named : findGap (.plan p) t with
        | none => exact ⟨id, unchanged⟩
        | some d => exact consumed d (mem_of_findGap named).1
      | some d =>
        have dStands := (longestGap_eq_some lead).1
        cases named : findGap (.plan p) t with
        | none => exact consumed d dStands
        | some e =>
          have eStands := (mem_of_findGap named).1
          obtain ⟨canon, entries⟩ := consumed d dStands
          refine ⟨fun c => gapsCanonical_putAgain (canon c) (old := e.2) ?_ rfl, rewritten eStands ⟨_, _, _, rfl⟩ entries⟩
          exact Table.mem_put_of_ne eStands (slots_differ c.1 lead named).symm _

theorem consumeSlot_wf {t : Table Gap} (wf : t.wf = true) (now : Nat) (e : Option (Nat × Gap)) :
    (consumeSlot now e t).wf = true := by
  cases e with
  | none => exact wf
  | some d => exact Table.wf_put t wf _ _

/-- The slot consumed is that of the entry applying. -/
theorem get?_consumeSlot {t : Table Gap} (wf : t.wf = true) {now : Nat} {e : Option (Nat × Gap)}
    (stands : ∀ d, e = some d → d ∈ t) (k : Nat) :
    (consumeSlot now e t).get? k = (t.get? k).map fun g => if e = some (k, g) then g.admitted1 now else g := by
  cases e with
  | none => simp [consumeSlot]
  | some d =>
    obtain ⟨i, h⟩ := d
    have read := Table.get?_of_mem t wf (stands _ rfl)
    rw [consumeSlot, Table.get?_put]
    by_cases own : k = i
    · subst own
      simp [read]
    · have ne : ¬ i = k := fun e => own e.symm
      simp [own, ne]

theorem gentles_admission (s : State) (number : Digits) (p : Nat) :
    Gentles s (s.setGaps (admission s.now number p s.gpc.gaps).2) := by
  obtain ⟨canon, entries⟩ := admission_keeps s.now number p s.gpc.gaps
  refine (Gentle.gaps s _ canon fun law e he => ?_).gentles
  obtain ⟨g, stands, admits⟩ := entries e he
  exact admits.lawful (law.1 _ stands)

/-! ### SEEK -/

theorem writes_grantSeek {s : State} {f : SeekFields} {cls : CallClass} {p : Nat} {cand : Candidate} {a : Answer}
    (h : s.grantSeek f cls p cand = some a) : Writes s a.1 := by
  simp only [State.grantSeek, Option.bind_eq_bind, Option.bind_eq_some_iff, Option.pure_def, Option.some.injEq] at h
  obtain ⟨grp, -, ⟨t, i⟩, granted, rfl⟩ := h
  exact (writes_grant granted).tail (.call t _ _ fun _ => ⟨Nat.zero_le _, Nat.zero_le _, Nat.zero_le _⟩)

theorem writes_searchSeek {s : State} {f : SeekFields} {cls : CallClass} {p : Nat} {plan : Plan} {a : Answer}
    (h : s.searchSeek f cls p plan = some a) : Writes s a.1 := by
  simp only [State.searchSeek, Option.bind_eq_bind, Option.bind_eq_some_iff] at h
  obtain ⟨⟨t, found⟩, searched, h⟩ := h
  refine (gentles_search searched).writes.trans ?_
  cases found with
  | taken cand => exact writes_grantSeek h
  | exhausted conditions =>
    rw [Option.pure_def, Option.some.injEq] at h
    subst h
    exact .refl

theorem writes_analyseSeek {s : State} {f : SeekFields} {cls : CallClass} {a : Answer} (h : s.analyseSeek f cls = some a) :
    Writes s a.1 := by
  rw [State.analyseSeek] at h
  split at h
  · exact Option.some.inj h ▸ .refl
  next e _ =>
    simp only [Option.bind_eq_bind, Option.bind_eq_some_iff] at h
    obtain ⟨plan, -, h⟩ := h
    split at h
    · exact writes_searchSeek h
    · refine (gentles_admission s f.number e.plan).writes.trans ?_
      split at h
      · exact writes_searchSeek h
      · rw [Option.pure_def, Option.some.injEq] at h
        subst h
        exact .refl

/-- SEEK is refused by its checks, or the number is analysed (R57, R58). -/
theorem handleSeek_cases {P : Answer → Prop} {body : List Byte} {s : State} {a : Answer} (h : handleSeek body s = some a)
    (refused : ∀ r, P (refuse s r))
    (acts : ∀ f cls, f.tag ≠ 0 → (s.account? f.incoming).isSome = true → s.call? f.tag = none →
      s.analyseSeek f cls = some a → P a) : P a := by
  rw [handleSeek] at h
  split at h
  · exact Option.some.inj h ▸ refused _
  · split at h
    · exact Option.some.inj h ▸ refused _
    next valid =>
      split at h
      · exact Option.some.inj h ▸ refused _
      · split at h
        · exact Option.some.inj h ▸ refused _
        · split at h
          · exact Option.some.inj h ▸ refused _
          next carrier =>
            split at h
            · exact Option.some.inj h ▸ refused _
            next free =>
              refine acts _ _ ?_ ?_ ?_ h
              · intro zero
                simp [zero] at valid
              · simpa [Option.isSome_iff_ne_none] using carrier
              · simpa using free

theorem writes_handleSeek {body : List Byte} {s : State} {a : Answer} (h : handleSeek body s = some a) : Writes s a.1 :=
  handleSeek_cases (P := fun a => Writes s a.1) h (fun _ => .refl) fun _ _ _ _ _ => writes_analyseSeek

/-! ### The expiries of a call -/

theorem writes_superviseOut {s t : State} {tag : Nat} {call : Call} (h : s.superviseOut tag call = some t) :
    Writes s t := by
  simp only [State.superviseOut, Option.bind_eq_bind, Option.bind_eq_some_iff, Option.pure_def, Option.some.injEq] at h
  obtain ⟨r, released, rfl⟩ := h
  have advanced : Writes s (r.advanceSticky call.plan call.position) :=
    (writes_reportRelease released).trans (gentles_advanceSticky r _ _).writes
  exact (advanced.offer _).tail (.eraseCall _ tag)

theorem writes_chargeCall {s t : State} {tag : Nat} {call : Call} (h : s.chargeCall tag call = some t) : Writes s t := by
  simp only [State.chargeCall, Option.bind_eq_bind, Option.bind_eq_some_iff, Option.pure_def, Option.some.injEq] at h
  obtain ⟨c, -, outgoing, -, ⟨u, amounts⟩, accrued, rfl⟩ := h
  exact (gentles_accrueStep accrued).writes.tail (.call u tag _ fun _ => call.inRange_charged _ _)

/-! ### The statement -/

/-- Settles O21: the entry that leads a number is the longest that does, and each case of an admission is a case of its tests. -/
theorem gapAdmissionTests : Obligations.GapAdmissionTests := by
  unfold Obligations.GapAdmissionTests
  have max32 : Config.max32 = 4294967295 := rfl
  refine ⟨fun number t => ⟨fun i g lead => ?longest, fun none e he ds key leading => ?none⟩,
    fun now p number t wf => ⟨fun i g lead ahead => ?refusedByDigits, fun j k behind named ahead => ?refusedByPlan,
      fun leadBehind planBehind => ?admitted⟩⟩
  case longest =>
    obtain ⟨stands, n, length, most⟩ := longestGap_eq_some lead
    obtain ⟨ds, key, leading, rfl⟩ := (Gap.leadLength_eq_some _ _ _).mp length
    exact ⟨stands, ds, key, leading, fun e he ds' key' leading' =>
      most e he _ ((Gap.leadLength_eq_some _ _ _).mpr ⟨ds', key', leading', rfl⟩)⟩
  case none => exact longestGap_ne_none he ((Gap.leadLength_eq_some _ _ _).mpr ⟨ds, key, leading, rfl⟩) none
  case refusedByDigits => simp [admission, lead, refusing, Gap.refuses, ahead, countRefusal, Gap.refused1, satAdd, max32]
  case refusedByPlan =>
    have passes : refusing now (longestGap number t) = false := by
      cases lead : longestGap number t with
      | none => rfl
      | some e => simpa [refusing, Gap.refuses] using behind e.1 e.2 lead
    rw [admission, passes]
    simp [named, refusing, Gap.refuses, ahead, countRefusal, Gap.refused1, satAdd, max32]
  case admitted =>
    have leadPasses : refusing now (longestGap number t) = false := by
      cases lead : longestGap number t with
      | none => rfl
      | some e => simpa [refusing, Gap.refuses] using leadBehind e.1 e.2 lead
    have planPasses : refusing now (findGap (.plan p) t) = false := by
      cases named : findGap (.plan p) t with
      | none => rfl
      | some e => simpa [refusing, Gap.refuses] using planBehind e.1 e.2 named
    have admits : admission now number p t =
        (true, consumeSlot now (findGap (.plan p) t) (consumeSlot now (longestGap number t) t)) := by
      simp [admission, leadPasses, planPasses]
    refine ⟨by rw [admits], fun k => ?_⟩
    rw [admits, get?_consumeSlot (consumeSlot_wf wf _ _) fun e named => ?stands,
      get?_consumeSlot wf fun e lead => (longestGap_eq_some lead).1, Option.map_map]
    case stands =>
      cases lead : longestGap number t with
      | none => exact (mem_of_findGap named).1
      | some d => exact Table.mem_put_of_ne (mem_of_findGap named).1 (slots_differ wf lead named).symm _
    refine Option.map_congr fun g hg => ?_
    have entry : (g.admitted1 now) =
        { g with nextAdmit := now + g.interval, admitted := min 4294967295 (g.admitted + 1) } := by
      simp [Gap.admitted1, satAdd, max32]
    rw [← entry]
    by_cases lead : longestGap number t = some (k, g)
    · have other : findGap (.plan p) t ≠ some (k, g.admitted1 now) := fun named => slots_differ wf lead named rfl
      simp [lead, other]
    · by_cases named : findGap (.plan p) t = some (k, g)
      · simp [lead, named]
      · simp [lead, named]

end Sys2Proof.Machine
end

section
/-! PROOFS. What a step can do, once: a tick, a sequence of writes, a request served by a sequence of writes and its reply, an effect of
RESTART, a move of the link, or the clearing of the part. -/

namespace Sys2Proof.Machine

/-! ### The expiries -/

theorem writes_guardExpiry {s t : State} {i : Nat} (h : exec (.guardExpiry i) s = .next t) : Writes s t := by
  have h : execGuardExpiry i s = .next t := h
  rw [execGuardExpiry] at h
  (repeat' split at h) <;> cases h
  · exact .refl
  · exact writes_endGuard s i _
  · exact .refl

/-- Above the threshold of a level f yields a lower one (R40, R45). -/
theorem GroupConfig.raiseLevel_le_pred (c : GroupConfig) {level idle : Nat} (positive : 0 < level) (top : level ≤ 3)
    (le32 : c.i3 ≤ c.i2) (le21 : c.i2 ≤ c.i1) (above : c.threshold level < idle) : c.raiseLevel idle ≤ level - 1 := by
  have cases : level = 1 ∨ level = 2 ∨ level = 3 := by omega
  rcases cases with rfl | rfl | rfl
  · have above : c.i1 < idle := above
    exact Nat.le_of_eq ((c.raiseLevel_eq_zero_iff idle).mpr (by omega))
  · have above : c.i2 < idle := above
    have := c.two_le_raiseLevel_iff idle
    omega
  · have above : c.i3 < idle := above
    have := c.raiseLevel_eq_three_iff idle
    have := c.raiseLevel_le_three idle
    omega

/-- The strain law behind the fall test (R45): the level falls only when the window's minimum, and so the idle count, stands above the
threshold of the level. -/
theorem Group.strainLaw.afterFallTest {grp : Group} (h : grp.strainLaw) : grp.afterFallTest.strainLaw := by
  rw [Group.afterFallTest]
  split
  next falls =>
    obtain ⟨raise, level, minIdle, le32, le21⟩ := h
    simp only [Group.falls, Bool.and_eq_true, decide_eq_true_eq] at falls
    obtain ⟨positive, above⟩ := falls
    refine ⟨?_, Nat.le_trans (Nat.sub_le _ _) level, minIdle, le32, le21⟩
    have lower : grp.config.threshold grp.level < grp.idleCount := by omega
    exact grp.config.raiseLevel_le_pred positive level le32 le21 lower
  next => exact h

theorem gentles_windowEnds {s : State} {g : Nat} {grp : Group} (held : s.group? g = some grp) :
    Gentles s (s.windowEnds g grp) := by
  refine .trans (Gentle.group s g grp _ held ?_ fun h => ?_).gentles (gentles_levelChanged _ g _ _)
  · simp only [Group.afterFallTest, Group.recordWindow, Group.beginWindow, Group.reliesAs]
    split <;> exact ⟨rfl, rfl, rfl, .inr rfl⟩
  · have fallen : (grp.afterFallTest.recordWindow s.tmb.clock).strainLaw := h.afterFallTest
    exact fallen.beginWindow _ _

theorem gentles_windowExpiry {s t : State} {g : Nat} (h : exec (.windowExpiry g) s = .next t) : Gentles s t := by
  have h : execWindowExpiry g s = .next t := h
  rw [execWindowExpiry] at h
  split at h
  · cases h; exact .refl
  next grp held =>
    split at h <;> cases h
    · exact gentles_windowEnds held
    · exact .refl

theorem gentles_escalationExpiry {s t : State} {g : Nat} (h : exec (.escalationExpiry g) s = .next t) : Gentles s t := by
  have h : execEscalationExpiry g s = .next t := h
  rw [execEscalationExpiry] at h
  split at h
  · cases h; exact .refl
  next grp held =>
    split at h <;> cases h
    · refine .trans (Gentle.gentles ?_) (gentles_escalationReport _ g)
      exact .group s g grp _ held ⟨rfl, rfl, rfl, .inr rfl⟩ (Group.strainLaw_of_same rfl rfl rfl rfl)
    · exact .refl

theorem writes_tsExpiry {s t : State} {g : Nat} (h : exec (.tsExpiry g) s = .next t) : Writes s t := by
  have h : execTsExpiry g s = .next t := h
  rw [execTsExpiry] at h
  split at h
  · cases h; exact .refl
  next grp held =>
    split at h <;> cases h
    · exact writes_putGroup_same s g held _ rfl rfl rfl rfl
    · exact .refl

theorem writes_tqExpiry {s t : State} {g : Nat} (h : exec (.tqExpiry g) s = .next t) : Writes s t := by
  have h : execTqExpiry g s = .next t := h
  rw [execTqExpiry] at h
  split at h
  · cases h; exact .refl
  next grp held =>
    split at h <;> cases h
    · exact writes_putGroup_same s g held _ rfl rfl rfl rfl
    · exact .refl

theorem writes_twExpiry {s t : State} {g : Nat} (h : exec (.twExpiry g) s = .next t) : Writes s t := by
  have h : execTwExpiry g s = .next t := h
  rw [execTwExpiry] at h
  split at h
  · cases h; exact .refl
  next grp held =>
    split at h <;> cases h
    · refine Writes.offer (.trans ?_ (writes_releaseProbeOf _ grp)) _
      exact writes_putGroup_same s g held _ rfl rfl rfl rfl
    · exact .refl

/-- An event that the laws let occur leaves the state it answers. -/
theorem occurs_eq_next {r : Option State} {t : State} (h : occurs r = .next t) : r = some t := by
  cases r <;> cases h
  rfl

theorem writes_seizureSupervisionExpiry {s t : State} {tag : Nat} (h : exec (.seizureSupervisionExpiry tag) s = .next t) :
    Writes s t := by
  have h : execSeizureSupervisionExpiry tag s = .next t := h
  rw [execSeizureSupervisionExpiry] at h
  split at h
  · cases h; exact .refl
  · split at h
    · exact writes_superviseOut (occurs_eq_next h)
    · cases h; exact .refl

theorem writes_chargeStepExpiry {s t : State} {tag : Nat} (h : exec (.chargeStepExpiry tag) s = .next t) : Writes s t := by
  have h : execChargeStepExpiry tag s = .next t := h
  rw [execChargeStepExpiry] at h
  split at h
  · cases h; exact .refl
  · split at h
    · exact writes_chargeCall (occurs_eq_next h)
    · cases h; exact .refl

theorem gentles_gapDurationExpiry {s t : State} {i : Nat} (h : exec (.gapDurationExpiry i) s = .next t) : Gentles s t := by
  have h : execGapDurationExpiry i s = .next t := h
  rw [execGapDurationExpiry] at h
  (repeat' split at h) <;> cases h
  · exact .refl
  · exact (gentle_eraseGap s i).gentles
  · exact .refl

theorem gentles_periodTimerExpiry {s t : State} (h : exec .periodTimerExpiry s = .next t) : Gentles s t := by
  have h : execPeriodTimerExpiry s = .next t := h
  rw [execPeriodTimerExpiry] at h
  (repeat' split at h) <;> cases h
  · exact gentles_closePeriod s _
  · exact gentles_holdPeriod s _
  · exact .refl

theorem gentles_partClockRise {s t : State} (h : exec .partClockRise s = .next t) : Gentles s t := by
  have h : execPartClockRise s = .next t := h
  rw [execPartClockRise] at h
  split at h
  · split at h <;> cases h
    next below => exact (Gentle.clock s _ _ below).gentles
    next => exact (Gentle.clockCount s).gentles
  · cases h; exact .refl

/-! ### What a block can do -/

/-- What a block does to the records, in a request or in an expiry: gentle writes, or one of the requests and expiries that write what
other blocks rely on. -/
inductive BlockMove (s : State) : State → Prop
  | gentles {t : State} (h : Gentles s t) : BlockMove s t
  | setPrefix (body : List Byte) : BlockMove s (handleSetPrefix body s).1
  | delPrefix (body : List Byte) : BlockMove s (handleDelPrefix body s).1
  | setGroup (body : List Byte) : BlockMove s (handleSetGroup body s).1
  | delGroup (body : List Byte) : BlockMove s (handleDelGroup body s).1
  | delCarrier (body : List Byte) : BlockMove s (handleDelCarrier body s).1
  | service (body : List Byte) : BlockMove s (handleService body s).1
  | block (body : List Byte) : BlockMove s (handleBlock body s).1
  | unblock (body : List Byte) : BlockMove s (handleUnblock body s).1
  | seek {body : List Byte} {a : Answer} (h : handleSeek body s = some a) : BlockMove s a.1
  | progress {body : List Byte} {a : Answer} (h : handleProgress body s = some a) : BlockMove s a.1
  | answer {body : List Byte} {a : Answer} (h : handleAnswer body s = some a) : BlockMove s a.1
  | fail {body : List Byte} {a : Answer} (h : handleFail body s = some a) : BlockMove s a.1
  | clear {body : List Byte} {a : Answer} (h : handleClear body s = some a) : BlockMove s a.1
  | guardEnds {i : Nat} {t : State} (h : exec (.guardExpiry i) s = .next t) : BlockMove s t
  | tsEnds {g : Nat} {t : State} (h : exec (.tsExpiry g) s = .next t) : BlockMove s t
  | tqEnds {g : Nat} {t : State} (h : exec (.tqExpiry g) s = .next t) : BlockMove s t
  | twEnds {g : Nat} {t : State} (h : exec (.twExpiry g) s = .next t) : BlockMove s t
  | supervisionEnds {tag : Nat} {t : State} (h : exec (.seizureSupervisionExpiry tag) s = .next t) : BlockMove s t
  | chargeStep {tag : Nat} {t : State} (h : exec (.chargeStepExpiry tag) s = .next t) : BlockMove s t

/-- Whatever a block does is a sequence of writes. -/
theorem BlockMove.writes {s t : State} (h : BlockMove s t) : Writes s t := by
  cases h with
  | gentles h => exact Gentles.writes h
  | setPrefix body => exact writes_handleSetPrefix body s
  | delPrefix body => exact writes_handleDelPrefix body s
  | setGroup body => exact writes_handleSetGroup body s
  | delGroup body => exact writes_handleDelGroup body s
  | delCarrier body => exact writes_handleDelCarrier body s
  | service body => exact writes_handleService body s
  | block body => exact writes_handleBlock body s
  | unblock body => exact writes_handleUnblock body s
  | seek h => exact writes_handleSeek h
  | progress h => exact writes_handleProgress h
  | answer h => exact writes_handleAnswer h
  | fail h => exact writes_handleFail h
  | clear h => exact writes_handleClear h
  | guardEnds h => exact writes_guardExpiry h
  | tsEnds h => exact writes_tsExpiry h
  | tqEnds h => exact writes_tqExpiry h
  | twEnds h => exact writes_twExpiry h
  | supervisionEnds h => exact writes_seizureSupervisionExpiry h
  | chargeStep h => exact writes_chargeStepExpiry h

/-! ### What a command can do -/

/-- A move of the link: what LIF holds after characters, an abandoned frame, a sent frame, or the beginning or the close of a link
reset. -/
inductive LinkMove (s : State) : Lif → Prop
  | characters (cs : List Byte) : LinkMove s (cs.foldl (Lif.character s.now) s.lif)
  | abandon : LinkMove s s.lif.abandon
  | sent : LinkMove s s.sendNext.lif
  | resetBegins : LinkMove s
      { s.lif with receiver := .hunting, requests := [], replies := [], advisories := [], linkReset := some s.lif.newReset }
  | marking (r : LinkReset) : LinkMove s { s.lif with linkReset := some { r with marking := true } }
  | resetEnds (r : LinkReset) : LinkMove s (s.lif.endReset r)

/-- What a command can do to a state (chapters 1 to 11). -/
inductive Does (s : State) : State → Prop
  | block {t : State} (h : BlockMove s t) : Does s t
  | served {u : State} (kind number : Byte) (body fields : List Byte) (takes : Takes s kind number body)
      (h : BlockMove s.popRequest u) : Does s (u.reply kind number fields)
  | status (number : Byte) (body : List Byte) (takes : Takes s 0x40 number body) :
      Does s ((s.popRequest.reply 0x40 number (Result.ok.code :: s.popRequest.statusFields)).withLif Lif.clearSticky)
  | restartTaken (number : Byte) (body : List Byte) (takes : Takes s 0x33 number body) :
      Does s (s.popRequest.restartTaken number).goesOn
  | restartGoesOn : Does s s.goesOn
  | restartCompletes : Does s (State.runEffects s.effectsLeft s).completeRestart
  | link {l : Lif} (h : LinkMove s l) : Does s { s with lif := l }
  | cleared (rate : LineRate) (phase : Phase) : Does s (s.cleared rate phase)
  | initDone (h : s.lif.phase = .initialising) : Does s ((s.withLif Lif.initDone).setTime { s.tmb with clockCount := 0 })

theorem Does.gentles {s t : State} (h : Gentles s t) : Does s t := .block (.gentles h)

theorem Does.nothing (s : State) : Does s s := .gentles .refl

/-- A request that a handler serves. -/
theorem does_of_serve {s t : State} {kind number : Byte} {body : List Byte} {handle : List Byte → State → Answer}
    (handled : BlockMove s.popRequest (handle body s.popRequest).1) (h : serve kind number body handle s = .next t) :
    Does s t := by
  by_cases takes : Takes s kind number body
  · rw [serve_of_takes takes] at h
    cases h
    exact .served kind number body _ takes handled
  · rw [serve_of_not_takes takes] at h
    cases h
    exact .nothing s

/-- A request that a handler serves by gentle writes. -/
theorem does_of_gentle {s t : State} {kind number : Byte} {body : List Byte} {handle : List Byte → State → Answer}
    (handled : Gentles s.popRequest (handle body s.popRequest).1) (h : serve kind number body handle s = .next t) :
    Does s t := does_of_serve (.gentles handled) h

/-- A request whose handler changes nothing. -/
theorem does_of_reading {s t : State} {kind number : Byte} {body : List Byte} {handle : List Byte → State → Answer}
    (handled : (handle body s.popRequest).1 = s.popRequest) (h : serve kind number body handle s = .next t) : Does s t :=
  does_of_gentle (by rw [handled]) h

/-- A request whose handler reads records that the laws keep together. -/
theorem does_of_serveLaw {s t : State} {kind number : Byte} {body : List Byte} {handle : List Byte → State → Option Answer}
    (handled : ∀ a, handle body s.popRequest = some a → BlockMove s.popRequest a.1)
    (h : serveLaw kind number body handle s = .next t) : Does s t := by
  by_cases takes : Takes s kind number body
  · rw [serveLaw, if_pos ((takes_iff ..).mpr takes)] at h
    split at h
    next a answered =>
      cases h
      exact .served kind number body _ takes (handled a answered)
    next => cases h
  · rw [serveLaw_of_not_takes takes] at h
    cases h
    exact .nothing s

theorem does_characters (s : State) (cs : List Byte) : Does s (s.characters cs) := by
  rw [State.characters]
  split
  · exact .link (.characters cs)
  · exact .nothing s

/-- What a command does is one of these. -/
theorem does_of_exec {i : Instr} {s t : State} (h : exec i s = .next t) : Does s t := by
  cases i with
  | setPrefix number body => exact does_of_serve (.setPrefix body) h
  | delPrefix number body => exact does_of_serve (.delPrefix body) h
  | setPlan number body => exact does_of_gentle (gentles_handleSetPlan body _) h
  | setGroup number body => exact does_of_serve (.setGroup body) h
  | delGroup number body => exact does_of_serve (.delGroup body) h
  | setCarrier number body => exact does_of_gentle (gentles_handleSetCarrier body _) h
  | delCarrier number body => exact does_of_serve (.delCarrier body) h
  | loadTariff number body => exact does_of_gentle (gentles_handleLoadTariff body _) h
  | scheduleTariff number body => exact does_of_gentle (gentles_handleScheduleTariff body _) h
  | cancelTariff number body => exact does_of_gentle (gentles_handleCancelTariff body _) h
  | setGap number body => exact does_of_gentle (gentles_handleSetGap body _) h
  | delGap number body => exact does_of_gentle (gentles_handleDelGap body _) h
  | setAutogap number body => exact does_of_gentle (gentles_handleSetAutogap body _) h
  | setClock number body => exact does_of_gentle (gentles_handleSetClock body _) h
  | setPeriod number body => exact does_of_gentle (gentles_handleSetPeriod body _) h
  | seek number body => exact does_of_serveLaw (fun _ answered => .seek answered) h
  | progress number body => exact does_of_serveLaw (fun _ answered => .progress answered) h
  | answer number body => exact does_of_serveLaw (fun _ answered => .answer answered) h
  | fail number body => exact does_of_serveLaw (fun _ answered => .fail answered) h
  | clear number body => exact does_of_serveLaw (fun _ answered => .clear answered) h
  | service number body => exact does_of_serve (.service body) h
  | block number body => exact does_of_serve (.block body) h
  | unblock number body => exact does_of_serve (.unblock body) h
  | restart number body =>
    have h : execRestart number body s = .next t := h
    rw [execRestart] at h
    split at h
    next takes =>
      cases h
      exact .restartTaken number body ((takes_iff ..).mp takes)
    next =>
      split at h <;> cases h
      · exact .restartGoesOn
      · exact .nothing s
  | status number body =>
    have h : execStatus number body s = .next t := h
    rw [execStatus] at h
    split at h
    next takes =>
      cases h
      exact .status number body ((takes_iff ..).mp takes)
    next => cases h; exact .nothing s
  | readPrefix number body => exact does_of_reading (handleReadPrefix_state body _) h
  | readPlan number body => exact does_of_reading (handleReadPlan_state body _) h
  | readGroup number body => exact does_of_reading (handleReadGroup_state body _) h
  | readCircuit number body => exact does_of_reading (handleReadCircuit_state body _) h
  | readCall number body => exact does_of_reading (handleReadCall_state body _) h
  | readCarrier number body => exact does_of_reading (handleReadCarrier_state body _) h
  | readTariff number body => exact does_of_reading (handleReadTariff_state body _) h
  | readGaps number body => exact does_of_reading (handleReadGaps_state body _) h
  | collect number body => exact does_of_gentle (gentles_handleCollect body _) h
  | close number body => exact does_of_gentle (gentles_handleClose body _) h
  | unknownKind kind number body =>
    have h : execUnknownKind kind number body s = .next t := h
    rw [execUnknownKind] at h
    split at h
    · cases h; exact .nothing s
    · exact does_of_reading (handle := handleUnknown) rfl h
  | frameReceived cs => cases h; exact does_characters s cs
  | interCharacterTimeout =>
    have h : execInterCharacterTimeout s = .next t := h
    rw [execInterCharacterTimeout] at h
    (repeat' split at h) <;> cases h
    · exact .nothing s
    · exact .link .abandon
    · exact .nothing s
  | brokenCharacter =>
    have h : execBrokenCharacter s = .next t := h
    rw [execBrokenCharacter] at h
    split at h <;> cases h
    · exact .nothing s
    · exact .link .abandon
  | outlineFrameSend =>
    have h : execOutlineFrameSend s = .next t := h
    rw [execOutlineFrameSend] at h
    split at h <;> cases h
    · exact .nothing s
    · have sent : s.sendNext = { s with lif := s.sendNext.lif } := by
        rw [State.sendNext]
        (repeat' split) <;> rfl
      rw [sent]
      exact .link .sent
  | linkResetBegin =>
    have h : execLinkResetBegin s = .next t := h
    rw [execLinkResetBegin] at h
    split at h <;> cases h
    · exact .link .resetBegins
    · exact .nothing s
  | linkResetEnd =>
    have h : execLinkResetEnd s = .next t := h
    rw [execLinkResetEnd] at h
    split at h
    · cases h; exact .nothing s
    next r _ =>
      split at h
      · cases h; exact .nothing s
      · split at h <;> cases h
        · exact .link (.marking r)
        · exact .link (.resetEnds r)
  | powerOn a b => cases h; exact .cleared _ _
  | resetPinAssert => cases h; exact .cleared _ _
  | resetPinRelease a b =>
    have h : execResetPinRelease a b s = .next t := h
    rw [execResetPinRelease] at h
    split at h <;> cases h
    · exact .cleared _ _
    · exact .nothing s
  | initComplete =>
    have h : execInitComplete s = .next t := h
    rw [execInitComplete] at h
    split at h
    next initialising => cases h; exact .initDone initialising
    next => cases h; exact .nothing s
  | guardExpiry i => exact .block (.guardEnds h)
  | windowExpiry g => exact .gentles (gentles_windowExpiry h)
  | escalationExpiry g => exact .gentles (gentles_escalationExpiry h)
  | tsExpiry g => exact .block (.tsEnds h)
  | tqExpiry g => exact .block (.tqEnds h)
  | twExpiry g => exact .block (.twEnds h)
  | seizureSupervisionExpiry tag => exact .block (.supervisionEnds h)
  | chargeStepExpiry tag => exact .block (.chargeStep h)
  | gapDurationExpiry i => exact .gentles (gentles_gapDurationExpiry h)
  | periodTimerExpiry => exact .gentles (gentles_periodTimerExpiry h)
  | partClockRise => exact .gentles (gentles_partClockRise h)
  | startCodeReceived => cases h; exact does_characters s _
  | lengthOutOfRange high low => cases h; exact does_characters s _
  | restartCompletion => cases h; exact .restartCompletes

end Sys2Proof.Machine
end

section
/-! PROOFS. What a RESTART does, effect by effect, and what a step keeps: a law that no field of the link and no command in the queue
enters into holds after every step when every write, the freeing of the calls and the clearing of the part keep it. -/

namespace Sys2Proof.Machine

/-! ### The effects of a RESTART -/

/-- R56 yields the strain law afresh, whatever the level was: it needs the order of the thresholds alone. -/
theorem Group.strainLaw.restarted {grp : Group} (h : grp.strainLaw) (busy now : Nat) : (grp.restarted busy now).strainLaw :=
  ⟨Nat.le_refl _, grp.config.raiseLevel_le_three _, Nat.le_refl _, h.2.2.2⟩

theorem gentles_restartGroup (s : State) (g : Nat) : Gentles s (s.restartGroup g) := by
  rw [State.restartGroup]
  split
  · exact .refl
  next grp held =>
    refine .trans (Gentle.gentles ?_) (gentles_levelChanged _ g _ _)
    exact .group s g grp _ held ⟨rfl, rfl, rfl, .inr rfl⟩ fun h => h.restarted _ _

theorem gentles_purgeGaps (s : State) (left : List RestartEffect) : Gentles s (s.purgeGaps left) := by
  refine .trans (gentle_filterGaps s _).gentles (Gentle.groups _ (Group.escalationEnded left) ?_ ?_).gentles
  · intro g grp
    rw [Group.escalationEnded]
    split <;> exact ⟨rfl, rfl, rfl, .inr rfl⟩
  · intro g grp h
    rw [Group.escalationEnded]
    split <;> exact h

/-- An offer does not read the RESTART in service. -/
theorem Lif.offer_withServing (l : Lif) (v : Option Serving) (a : Advisory) :
    Lif.offer { l with serving := v } a = { l.offer a with serving := v } := by
  simp only [Lif.offer, Lif.enqueue, Lif.addAdvisory]
  split
  · rfl
  · split <;> (repeat' split) <;> rfl

/-- An advisory and the progress of a RESTART are written in either order. -/
theorem State.withServing_offer (s : State) (v : Serving) (a : Advisory) :
    (s.withServing v).offer a = (s.offer a).withServing v :=
  congrArg (fun l => { s with lif := l }) (Lif.offer_withServing s.lif (some v) a)

/-- One effect of a RESTART frees the calls and circuits or is a sequence of gentle writes, and the RESTART stays in service (R180). -/
theorem takeEffect_cases (s : State) (v : Serving) (e : RestartEffect) (left : List RestartEffect) :
    ∃ u w, (u = s.freeCalls ∨ Gentles s u) ∧ s.takeEffect v e left = u.withServing w := by
  cases e with
  | freeCalls => exact ⟨_, _, .inl rfl, rfl⟩
  | resetGroup g => exact ⟨_, _, .inr (gentles_restartGroup s g), rfl⟩
  | purgeGaps => exact ⟨_, _, .inr (gentles_purgeGaps s left), rfl⟩
  | announce =>
    exact ⟨_, _, .inr (Gentle.offer s (.restarted v.calls v.gaps)).gentles, s.withServing_offer _ _⟩

/-- The next effect, when one is left, is taken with a RESTART in service. -/
theorem nextEffect_cases (s : State) :
    s.nextEffect = s ∨
      s.lif.serving.isSome = true ∧ ∃ u w, (u = s.freeCalls ∨ Gentles s u) ∧ s.nextEffect = u.withServing w := by
  cases serving : s.lif.serving with
  | none => exact .inl (State.nextEffect_of_none serving)
  | some v =>
    cases left : v.left with
    | nil => exact .inl (State.nextEffect_of_done serving left)
    | cons e left' =>
      refine .inr ⟨rfl, ?_⟩
      rw [State.nextEffect_of_left serving left]
      exact takeEffect_cases s v e left'

/-- What the freeing of the calls and every sequence of gentle writes keep, while a RESTART is in service, its effects keep. -/
theorem runEffects_induct {P : State → Prop}
    (freed : ∀ s w, s.lif.serving.isSome = true → P s → P (s.freeCalls.withServing w))
    (gentles : ∀ s u w, s.lif.serving.isSome = true → Gentles s u → P s → P (u.withServing w)) (n : Nat) (s : State)
    (hs : P s) : P (State.runEffects n s) := by
  induction n generalizing s with
  | zero => exact hs
  | succ n ih =>
    refine ih s.nextEffect ?_
    rcases nextEffect_cases s with same | ⟨serving, u, w, rfl | gentle, next⟩
    · rwa [same]
    · rw [next]; exact freed s w serving hs
    · rw [next]; exact gentles s u w serving gentle hs

/-! ### What a step keeps -/

/-- A step is a tick, or what a command does to the state with the queue's rest (log 2). -/
theorem step_cases {P : State → State → Prop} {s t : State} (h : step s = .next t) (tick : P s s.tick)
    (does : ∀ rest, Does { s with pending := rest } t → P s t) : P s t := by
  rw [step] at h
  split at h
  · cases h; exact tick
  next c rest _ => exact does rest (does_of_exec h)

/-- A property kept by every move of a block, and by what is no move of a block: LIF's own changes, the queue of commands, the ticks,
the freeing of the calls and the clearing of the memories. -/
structure KeptByMoves (P : State → Prop) : Prop where
  lif : ∀ (s : State) (l : Lif), P s → P { s with lif := l }
  queue : ∀ (s : State) (pending : List Instr) (counter : Nat), P s → P { s with pending := pending, freeCounter := counter }
  time : ∀ (s : State) (now count : Nat), P s → P (s.setTime { s.tmb with now := now, clockCount := count })
  move : ∀ s t : State, BlockMove s t → P s → P t
  freed : ∀ s : State, P s → P s.freeCalls
  cleared : ∀ (s : State) (rate : LineRate) (phase : Phase), P (s.cleared rate phase)

namespace KeptByMoves
variable {P : State → Prop}

theorem runEffects (k : KeptByMoves P) (n : Nat) (s : State) (hs : P s) : P (State.runEffects n s) :=
  runEffects_induct (fun s _ _ hs => k.lif _ _ (k.freed s hs)) (fun _ _ _ _ h hs => k.lif _ _ (k.move _ _ (.gentles h) hs)) n s hs

theorem goesOn (k : KeptByMoves P) (s : State) (hs : P s) : P s.goesOn := k.queue _ _ _ (k.runEffects _ s hs)

/-- The completion of a RESTART writes LIF alone. -/
theorem completeRestart (k : KeptByMoves P) (s : State) (hs : P s) : P s.completeRestart := by
  have same : s.completeRestart = { s with lif := s.completeRestart.lif } := by
    rw [State.completeRestart]
    split
    · rfl
    · rw [State.replyRestart]
      split <;> rfl
  rw [same]
  exact k.lif s _ hs

theorem does (k : KeptByMoves P) {s t : State} (h : Does s t) (hs : P s) : P t := by
  cases h with
  | block h => exact k.move _ _ h hs
  | served kind number body fields takes h => exact k.lif _ _ (k.move _ _ h (k.lif _ _ hs))
  | status number body takes => exact k.lif s _ hs
  | restartTaken number body takes => exact k.goesOn _ (k.queue _ _ _ (k.lif s _ hs))
  | restartGoesOn => exact k.goesOn s hs
  | restartCompletes => exact k.completeRestart _ (k.runEffects _ s hs)
  | link h => exact k.lif s _ hs
  | cleared rate phase => exact k.cleared s rate phase
  | initDone h => exact k.time (s.withLif Lif.initDone) s.tmb.now 0 (k.lif s _ hs)

theorem tick (k : KeptByMoves P) (s : State) (hs : P s) : P s.tick := by
  rw [State.tick]
  split
  · exact hs
  · exact k.queue _ _ _ (k.time _ (s.tmb.now + 1) _ (k.lif s s.lif.tick hs))

theorem step (k : KeptByMoves P) {s t : State} (h : step s = .next t) (hs : P s) : P t :=
  step_cases (P := fun _ t => P t) h (k.tick s hs) fun rest d => k.does d (k.queue s rest s.freeCounter hs)

end KeptByMoves

/-- A property kept by every write, and by what is no write. -/
structure KeptByWrites (P : State → Prop) : Prop where
  lif : ∀ (s : State) (l : Lif), P s → P { s with lif := l }
  queue : ∀ (s : State) (pending : List Instr) (counter : Nat), P s → P { s with pending := pending, freeCounter := counter }
  time : ∀ (s : State) (now count : Nat), P s → P (s.setTime { s.tmb with now := now, clockCount := count })
  write : ∀ s t : State, Write s t → P s → P t
  freed : ∀ s : State, P s → P s.freeCalls
  cleared : ∀ (s : State) (rate : LineRate) (phase : Phase), P (s.cleared rate phase)

namespace KeptByWrites
variable {P : State → Prop}

theorem writes (k : KeptByWrites P) {s t : State} (h : Writes s t) (hs : P s) : P t := h.keeps k.write hs

/-- The moves of the blocks are sequences of writes. -/
theorem moves (k : KeptByWrites P) : KeptByMoves P where
  lif := k.lif
  queue := k.queue
  time := k.time
  move _ _ h := k.writes h.writes
  freed := k.freed
  cleared := k.cleared

theorem step (k : KeptByWrites P) {s t : State} (h : step s = .next t) (hs : P s) : P t := k.moves.step h hs

end KeptByWrites

end Sys2Proof.Machine
end

section
/-! PROOFS. The part clock (R164, R165): the activation of one class, of the classes that a clock value reaches, and SET_CLOCK and the
rise of the part clock, which activate them. -/

namespace Sys2Proof.Machine

/-! ### Tables that answer alike -/

/-- The record at a key of a table with one entry in front. -/
theorem Table.get?_cons {α : Type} (e : Nat × α) (t : Table α) (k : Nat) :
    Table.get? (e :: t) k = if e.1 = k then some e.2 else t.get? k := rfl

/-- Two tables in canonical form that answer every key alike are the same list (log 28). -/
theorem Table.ext {α : Type} {a b : Table α} (ha : a.wf = true) (hb : b.wf = true) (h : ∀ k, a.get? k = b.get? k) : a = b := by
  have sorted : ∀ {t : Table α}, t.wf = true → t.Pairwise (fun d e => d.1 < e.1) := by
    intro t ht
    induction t with
    | nil => exact .nil
    | cons e t ih =>
      obtain ⟨above, tail⟩ := (Table.wf_cons e.1 e.2 t).mp ht
      exact .cons above (ih tail)
  have mem : ∀ e, e ∈ a ↔ e ∈ b := fun e => by
    rw [show e = (e.1, e.2) from rfl, Table.mem_iff_get? a ha, Table.mem_iff_get? b hb, h]
  have nodup : ∀ {t : Table α}, t.wf = true → t.Nodup := fun ht =>
    (sorted ht).imp fun lt same => absurd (congrArg Prod.fst same) (Nat.ne_of_lt lt)
  exact List.Perm.eq_of_pairwise (fun d e _ _ de ed => absurd de (Nat.lt_asymm ed)) (sorted ha) (sorted hb)
    ((List.perm_ext_iff_of_nodup (nodup ha) (nodup hb)).mpr mem)

/-! ### Activation -/

/-- A class that a clock value activates (R165): its pending set, which it has while it has a schedule, becomes active. -/
def TariffClass.activated (t : TariffClass) : TariffClass :=
  { active := t.pendingSet.getD t.active, pendingSet := none, schedule := none }

theorem TariffClass.reached_iff (t : TariffClass) (clock : Nat) :
    t.reached clock = true ↔ ∃ time, t.schedule = some time ∧ time ≤ clock := by
  rw [TariffClass.reached]
  cases t.schedule <;> simp

/-- The activation of a class with a pending set. -/
theorem activate_of_pending {s : State} {c : Nat} {t : TariffClass} (held : s.tariff? c = some t)
    (pending : t.pendingSet.isSome = true) (trigger : TariffTrigger) :
    s.activate trigger c = { s with
      lif := s.lif.offer (.tariffOn c (t.pendingSet.getD t.active) s.tmb.clock trigger),
      chu := { s.chu with
        tariffs := s.chu.tariffs.put c t.activated, period := { s.chu.period with tariffMark := true } } } := by
  obtain ⟨v, hv⟩ := Option.isSome_iff_exists.mp pending
  rw [State.activate, held]
  simp only [hv, TariffClass.activated, Option.getD_some]
  rfl

/-- The activation of classes in order, each with a pending set of its own (R165). -/
theorem foldl_activate (trigger : TariffTrigger) (l : List (Nat × TariffClass)) (s : State)
    (held : ∀ e ∈ l, s.tariff? e.1 = some e.2 ∧ e.2.pendingSet.isSome = true)
    (distinct : l.Pairwise (fun d e => d.1 ≠ e.1)) :
    (l.map (·.1)).foldl (State.activate trigger) s = { s with
      lif := (l.map (fun e => Advisory.tariffOn e.1 (e.2.pendingSet.getD e.2.active) s.tmb.clock trigger)).foldl Lif.offer s.lif,
      chu := { s.chu with
        tariffs := l.foldl (fun t e => t.put e.1 e.2.activated) s.chu.tariffs,
        period := { s.chu.period with tariffMark := s.chu.period.tariffMark || !l.isEmpty } } } := by
  induction l generalizing s with
  | nil => simp
  | cons e l ih =>
    obtain ⟨here, later⟩ := List.pairwise_cons.mp distinct
    obtain ⟨stands, pending⟩ := held e (by simp)
    simp only [List.map_cons, List.foldl_cons]
    rw [activate_of_pending stands pending, ih _ (fun d hd => ?_) later]
    · simp
    · obtain ⟨there, also⟩ := held d (by simp [hd])
      refine ⟨?_, also⟩
      rw [State.tariff?, Table.get?_put_ne _ _ (here d hd).symm]
      exact there

/-- Writes in order of distinct keys, read back. -/
theorem get?_foldl_put {α β : Type} (f : α → β) (l : List (Nat × α)) (t : Table β) (k : Nat)
    (distinct : l.Pairwise (fun d e => d.1 ≠ e.1)) :
    (∀ v, (k, v) ∈ l → (l.foldl (fun t e => t.put e.1 (f e.2)) t).get? k = some (f v)) ∧
      ((∀ v, (k, v) ∉ l) → (l.foldl (fun t e => t.put e.1 (f e.2)) t).get? k = t.get? k) := by
  induction l generalizing t with
  | nil => simp
  | cons e l ih =>
    obtain ⟨here, later⟩ := List.pairwise_cons.mp distinct
    obtain ⟨found, kept⟩ := ih (t.put e.1 (f e.2)) later
    refine ⟨fun v hv => ?_, fun absent => ?_⟩
    · rcases List.mem_cons.mp hv with rfl | hv
      · rw [List.foldl_cons, kept fun w hw => here _ hw rfl, Table.get?_put_self]
      · exact found v hv
    · have other : k ≠ e.1 := fun same => absent e.2 (by simp [same])
      rw [List.foldl_cons, kept fun v hv => absent v (by simp [hv]), Table.get?_put_ne _ _ other]

theorem wf_foldl_put {α β : Type} (f : α → β) (l : List (Nat × α)) (t : Table β) (wf : t.wf = true) :
    (l.foldl (fun t e => t.put e.1 (f e.2)) t).wf = true := by
  induction l generalizing t with
  | nil => exact wf
  | cons e l ih => exact ih _ (Table.wf_put t wf _ _)

theorem keys_distinct {α : Type} {t : Table α} (wf : t.wf = true) : t.Pairwise (fun d e => d.1 ≠ e.1) := by
  induction t with
  | nil => exact .nil
  | cons e t ih =>
    obtain ⟨above, tail⟩ := (Table.wf_cons e.1 e.2 t).mp wf
    exact .cons (fun d hd => Nat.ne_of_lt (above d hd)) (ih tail)

/-- Rewriting the records of a table that a test picks, one after another, is a change of every such record. -/
theorem foldl_put_filter {α : Type} {t : Table α} (wf : t.wf = true) (p : α → Bool) (f : α → α) :
    (t.filter (fun e => p e.2)).foldl (fun t e => t.put e.1 (f e.2)) t =
      t.map (fun e => (e.1, if p e.2 then f e.2 else e.2)) := by
  rw [← Table.mapValues_eq_map (fun _ v => if p v then f v else v) t]
  refine Table.ext (wf_foldl_put f _ t wf) (Table.wf_mapValues _ t wf) fun k => ?_
  obtain ⟨found, kept⟩ := get?_foldl_put f (t.filter (fun e => p e.2)) t k ((keys_distinct wf).filter _)
  rw [Table.get?_mapValues]
  cases held : t.get? k with
  | none =>
    rw [kept fun v hv => ?_, held, Option.map_none]
    rw [Table.get?_of_mem t wf ((List.mem_filter.mp hv).1)] at held
    cases held
  | some v =>
    have stands := Table.mem_of_get? t held
    by_cases picked : p v = true
    · rw [found v (List.mem_filter.mpr ⟨stands, picked⟩), Option.map_some, if_pos picked]
    · rw [kept fun w hw => ?_, held, Option.map_some, if_neg picked]
      obtain ⟨mem, pw⟩ := List.mem_filter.mp hw
      rw [Table.get?_of_mem t wf mem] at held
      cases held
      exact picked pw

/-- The part clock takes a value (R164, R165): what it reaches is activated, in rising class index. -/
theorem clockTo_eq {s : State} (wf : s.chu.tariffs.wf = true) (ahead : SchedulesAhead s) (v : Nat) (trigger : TariffTrigger) :
    s.clockTo v trigger = { s with
      lif := ((s.chu.tariffs.filter (fun e => e.2.reached v)).map
        (fun e => Advisory.tariffOn e.1 (e.2.pendingSet.getD e.2.active) v trigger)).foldl Lif.offer s.lif,
      tmb := { s.tmb with clock := v, clockCount := 0 },
      chu := { s.chu with
        tariffs := s.chu.tariffs.map (fun e => (e.1, if e.2.reached v then e.2.activated else e.2)),
        period := { s.chu.period with
          tariffMark := s.chu.period.tariffMark || s.chu.tariffs.any (fun e => e.2.reached v) } } } := by
  have held : ∀ e ∈ s.chu.tariffs.filter (fun e => e.2.reached v),
      (s.setTime { s.tmb with clock := v, clockCount := 0 }).tariff? e.1 = some e.2 ∧ e.2.pendingSet.isSome = true := by
    intro e he
    obtain ⟨mem, reached⟩ := List.mem_filter.mp he
    obtain ⟨time, schedule, _⟩ := (e.2.reached_iff v).mp reached
    exact ⟨Table.get?_of_mem _ wf mem, (ahead.1 e mem (by rw [schedule]; rfl)).1⟩
  have mark : ∀ t : Table TariffClass,
      (!(t.filter (fun e => e.2.reached v)).isEmpty) = t.any (fun e => e.2.reached v) := by
    intro t
    induction t with
    | nil => rfl
    | cons e t ih => by_cases reached : e.2.reached v = true <;> simp_all
  rw [State.clockTo, State.classesReached, foldl_activate trigger _ _ held ((keys_distinct wf).filter _)]
  simp only [State.setTime_chu, State.setTime_tmb, State.setTime_lif, mark, foldl_put_filter wf]
  rfl

/-! ### The statement -/

theorem exec_setClock (number : Byte) (body : List Byte) (s : State) :
    exec (.setClock number body) s = serve 0x0E number body handleSetClock s := rfl

theorem exec_partClockRise (s : State) : exec .partClockRise s = execPartClockRise s := rfl

/-- The part clock below its largest value rises by one at its 1,000th tick (R164). -/
theorem partClockRise_of_below {s : State} (running : s.lif.phase = .running) (count : 1000 ≤ s.tmb.clockCount)
    (below : s.tmb.clock < 4294967295) : exec .partClockRise s = .next (s.clockTo (s.tmb.clock + 1) .clock) := by
  have below : s.tmb.clock < Config.max32 := below
  have due : s.riseDue = true := by simp [State.riseDue, running, count]
  rw [exec_partClockRise, execPartClockRise, if_pos due, if_pos below]

/-- At its largest value it holds (R164). -/
theorem partClockRise_of_largest {s : State} (running : s.lif.phase = .running) (count : 1000 ≤ s.tmb.clockCount)
    (largest : s.tmb.clock = 4294967295) : exec .partClockRise s = .next (s.setTime { s.tmb with clockCount := 0 }) := by
  have held : ¬ s.tmb.clock < Config.max32 := by rw [largest]; exact Nat.lt_irrefl _
  have due : s.riseDue = true := by simp [State.riseDue, running, count]
  rw [exec_partClockRise, execPartClockRise, if_pos due, if_neg held]

theorem handleSetClock_of_read {body rest : List Byte} {v : Nat} (read : takeNumber 4 body = some (v, rest)) (s : State) :
    handleSetClock body s =
      accept (s.clockTo v .setClock)
        (putNumber 4 s.tmb.clock ++ putNumber 4 v ++
          putNumber 1 (s.chu.tariffs.filter (fun e => e.2.reached v)).length) := by
  rw [handleSetClock, read]
  simp [State.classesReached]

/-- Settles O51: SET_CLOCK and the rise both move the clock by the same operation, whose activations are written in rising class index. -/
theorem clockMovesAndActivates : Obligations.ClockMovesAndActivates := by
  unfold Obligations.ClockMovesAndActivates
  refine ⟨fun s number body rest v takes read canon ahead => ?set, fun s running count below canon ahead => ?rise,
    fun s running count largest => ?holds, fun s number body takes short => ?short, fun t clock => t.reached_iff clock⟩
  case set =>
    obtain ⟨_, _, _, _, _, _, wf, _⟩ := canon
    have ran := exec_setClock number body s
    rw [serve_of_takes takes, handleSetClock_of_read read, clockTo_eq (s := s.popRequest) wf ahead] at ran
    exact ⟨_, ran, served_completed _ _ _ rfl, rfl⟩
  case rise =>
    obtain ⟨_, _, _, _, _, _, wf, _⟩ := canon
    rw [partClockRise_of_below running count below, clockTo_eq wf ahead]
    rfl
  case holds => exact partClockRise_of_largest running count largest
  case short =>
    refine refused_of_serve takes (exec_setClock number body s) ?_
    rw [handleSetClock, (takeNumber_eq_none 4 body).mpr short]
    rfl

end Sys2Proof.Machine
end

section
/-! PROOFS. The laws on stored values (R112, R118, R139, R140, R149), the canonical form of the tables (R1, R77, R112) and the schedules
ahead of the part clock (R159, R164) hold after every step: each kind of write keeps them. -/

namespace Sys2Proof.Machine

/-! ### The part clock takes a value -/

/-- What setting the clock and every activation keep, the part clock's move keeps. -/
theorem clockTo_induct {P : State → Prop} {s : State} {v : Nat} {trigger : TariffTrigger}
    (start : P (s.setTime { s.tmb with clock := v, clockCount := 0 }))
    (one : ∀ (u : State) (c : Nat) (t : TariffClass) (w : TariffValues) (a : Advisory), u.tariff? c = some t → P u →
      P (((u.putTariff c { active := w, pendingSet := none, schedule := none }).setPeriodState
        { u.chu.period with tariffMark := true }).offer a)) : P (s.clockTo v trigger) := by
  rw [State.clockTo]
  generalize s.classesReached v = l
  generalize s.setTime { s.tmb with clock := v, clockCount := 0 } = u at start
  induction l generalizing u with
  | nil => exact start
  | cons c l ih =>
    refine ih (State.activate trigger u c) ?_
    rw [State.activate]
    split
    · exact start
    next t held =>
      split
      · exact start
      next w _ => exact one u c t w _ held start

/-- What the part clock's move leaves as it was: all but LIF, the tariff classes, the period's tariff mark and the clock. -/
theorem clockTo_frame (s : State) (v : Nat) (trigger : TariffTrigger) :
    ∃ lif tariffs mark,
      s.clockTo v trigger = { s with
        lif := lif,
        chu := { s.chu with tariffs := tariffs, period := { s.chu.period with tariffMark := mark } },
        tmb := { s.tmb with clock := v, clockCount := 0 } } ∧
      (s.chu.tariffs.wf = true → tariffs.wf = true) ∧
      ∀ c, (tariffs.get? c).isSome = (s.tariff? c).isSome := by
  refine clockTo_induct (P := fun u => ∃ lif tariffs mark, u = { s with
      lif := lif,
      chu := { s.chu with tariffs := tariffs, period := { s.chu.period with tariffMark := mark } },
      tmb := { s.tmb with clock := v, clockCount := 0 } } ∧ (s.chu.tariffs.wf = true → tariffs.wf = true) ∧
    ∀ c, (tariffs.get? c).isSome = (s.tariff? c).isSome) ⟨_, _, _, rfl, id, fun _ => rfl⟩ ?_
  rintro u c t w a held ⟨lif, tariffs, mark, rfl, wf, present⟩
  refine ⟨_, tariffs.put c _, true, rfl, fun h => Table.wf_put _ (wf h) _ _, fun j => ?_⟩
  rw [Table.get?_put]
  split
  next same =>
    have stands : tariffs.get? c = some t := held
    rw [same, ← present c, stands]
    rfl
  next => exact present j

/-! ### Totals, the period and the gaps -/

theorem totalsInRange_gentle {s t : State} (h : Gentle s t) (law : TotalsInRange s) : TotalsInRange t := by
  cases h with
  | account k a range =>
    refine ⟨fun e he => ?_, law.2⟩
    rcases Table.mem_put _ he with rfl | he
    · exact range law
    · exact law.1 e he
  | accounts f range =>
    refine ⟨fun e he => ?_, law.2⟩
    rw [State.setAccounts_chu, Table.mapValues_eq_map] at he
    obtain ⟨d, hd, rfl⟩ := List.mem_map.mp he
    exact range _ (law.1 d hd)
  | clock v trigger =>
    obtain ⟨_, _, _, same, _⟩ := clockTo_frame s v trigger
    rw [same]
    exact law
  | offer | plan | group | groups | tariff | period | gaps | autoInterval | clockCount => exact law

theorem totalsInRange_kept : KeptByWrites TotalsInRange where
  lif _ _ law := law
  queue _ _ _ law := law
  time _ _ _ law := law
  write s t h law := by
    cases h with
    | gentle h => exact totalsInRange_gentle h law
    | call tag c range =>
      refine ⟨law.1, fun e he => ?_⟩
      rcases Table.mem_put _ he with rfl | he
      · exact range law
      · exact law.2 e he
    | eraseCall tag => exact ⟨law.1, fun e he => law.2 e (Table.mem_erase _ he)⟩
    | eraseAccount k => exact ⟨fun e he => law.1 e (Table.mem_erase _ he), law.2⟩
    | entry | eraseEntry | group | eraseGroup | circuits => exact law
  freed _ law := ⟨law.1, nofun⟩
  cleared _ _ _ := ⟨nofun, nofun⟩

theorem periodLaw_gentle {s t : State} (h : Gentle s t) (law : PeriodLaw s) : PeriodLaw t := by
  cases h with
  | period p lawful => exact lawful law
  | clock v trigger =>
    obtain ⟨_, _, _, same, _⟩ := clockTo_frame s v trigger
    rw [same]
    exact law
  | offer | plan | group | groups | account | accounts | tariff | gaps | autoInterval | clockCount => exact law

theorem periodLaw_kept : KeptByWrites PeriodLaw where
  lif _ _ law := law
  queue _ _ _ law := law
  time _ _ _ law := law
  write s t h law := by
    cases h with
    | gentle h => exact periodLaw_gentle h law
    | entry | eraseEntry | group | eraseGroup | circuits | call | eraseCall | eraseAccount => exact law
  freed _ law := law
  cleared _ _ _ := ⟨nofun, (by decide : 1 ≤ 4294967295), (by decide : 0 ≤ 1440)⟩

theorem gapLaw_gentle {s t : State} (h : Gentle s t) (law : GapLaw s) : GapLaw t := by
  cases h with
  | gaps t _ lawful => exact ⟨lawful law, law.2⟩
  | autoInterval v low high => exact ⟨law.1, low, high⟩
  | clock v trigger =>
    obtain ⟨_, _, _, same, _⟩ := clockTo_frame s v trigger
    rw [same]
    exact law
  | offer | plan | group | groups | account | accounts | tariff | period | clockCount => exact law

theorem gapLaw_kept : KeptByWrites GapLaw where
  lif _ _ law := law
  queue _ _ _ law := law
  time _ _ _ law := law
  write s t h law := by
    cases h with
    | gentle h => exact gapLaw_gentle h law
    | entry | eraseEntry | group | eraseGroup | circuits | call | eraseCall | eraseAccount => exact law
  freed _ law := law
  cleared _ _ _ := ⟨nofun, (by decide : 100 ≤ 1000), (by decide : 1000 ≤ 60000)⟩

/-- Settles O57: each of the three laws is kept by every kind of write. -/
theorem stepKeepsValueLaws : Obligations.StepKeepsValueLaws := by
  unfold Obligations.StepKeepsValueLaws
  exact fun s t h => ⟨totalsInRange_kept.step h, periodLaw_kept.step h, gapLaw_kept.step h⟩

/-! ### The order of the digit strings -/

/-- Table order is the strict lexicographic order of the digits (R5). -/
theorem digitsBefore_iff (a b : Digits) : digitsBefore a b = true ↔ a < b := by
  induction a generalizing b with
  | nil => cases b <;> simp [digitsBefore]
  | cons x a ih =>
    cases b with
    | nil => simp [digitsBefore]
    | cons y b =>
      rw [digitsBefore, List.cons_lt_cons_iff]
      by_cases lt : x < y
      · simp [lt]
      · by_cases gt : y < x
        · simp only [lt, gt, if_false, if_true, false_or]
          simp only [Bool.false_eq_true, false_iff, not_and]
          exact fun same => absurd same (by omega)
        · have same : x = y := by omega
          simp [same, ih]

theorem prefixesOrdered_iff (t : List PrefixEntry) :
    prefixesOrdered t = true ↔ t.Pairwise (fun a b => a.digits < b.digits) := by
  induction t with
  | nil => simp [prefixesOrdered]
  | cons e t ih => simp [prefixesOrdered, ih, List.all_eq_true, digitsBefore_iff]

theorem mem_putEntry {e d : PrefixEntry} {t : List PrefixEntry} (h : d ∈ putEntry e t) : d = e ∨ d ∈ t := by
  induction t with
  | nil => simpa [putEntry] using h
  | cons e' t ih =>
    rw [putEntry] at h
    split at h
    · exact (List.mem_cons.mp h).imp_right fun tail => List.mem_cons_of_mem _ tail
    · split at h
      · exact List.mem_cons.mp h
      · rcases List.mem_cons.mp h with first | later
        · exact .inr (first ▸ List.mem_cons_self)
        · exact (ih later).imp_right fun tail => List.mem_cons_of_mem _ tail

/-- An entry is written in its place. -/
theorem prefixesOrdered_putEntry (e : PrefixEntry) {t : List PrefixEntry} (h : prefixesOrdered t = true) :
    prefixesOrdered (putEntry e t) = true := by
  rw [prefixesOrdered_iff] at h ⊢
  induction t with
  | nil => simp [putEntry]
  | cons e' t ih =>
    obtain ⟨above, tail⟩ := List.pairwise_cons.mp h
    rw [putEntry]
    split
    next same => exact .cons (fun d hd => by rw [same]; exact above d hd) tail
    next differ =>
      split
      next before =>
        have before := (digitsBefore_iff _ _).mp before
        refine .cons (fun d hd => ?_) h
        rcases List.mem_cons.mp hd with rfl | hd
        · exact before
        · exact List.lt_trans before (above d hd)
      next after =>
        rw [digitsBefore_iff] at after
        refine .cons (fun d hd => ?_) (ih tail)
        rcases mem_putEntry hd with rfl | hd
        · exact (List.le_iff_lt_or_eq.mp (List.not_lt.mp after)).resolve_right fun same => differ same.symm
        · exact above d hd

theorem prefixesOrdered_eraseEntry (ds : Digits) {t : List PrefixEntry} (h : prefixesOrdered t = true) :
    prefixesOrdered (eraseEntry ds t) = true := by
  rw [prefixesOrdered_iff] at h ⊢
  exact h.filter _

/-! ### The canonical form of the tables -/

theorem canonical_gentle {s t : State} (h : Gentle s t) (canon : Canonical s) : Canonical t := by
  obtain ⟨prefixes, plans, groups, circuits, calls, accounts, tariffs, gaps, keys⟩ := canon
  cases h with
  | offer | period | autoInterval | clockCount =>
    exact ⟨prefixes, plans, groups, circuits, calls, accounts, tariffs, gaps, keys⟩
  | plan p q => exact ⟨prefixes, Table.wf_put _ plans _ _, groups, circuits, calls, accounts, tariffs, gaps, keys⟩
  | group g before after => exact ⟨prefixes, plans, Table.wf_put _ groups _ _, circuits, calls, accounts, tariffs, gaps, keys⟩
  | groups f => exact ⟨prefixes, plans, Table.wf_mapValues _ _ groups, circuits, calls, accounts, tariffs, gaps, keys⟩
  | account k a => exact ⟨prefixes, plans, groups, circuits, calls, Table.wf_put _ accounts _ _, tariffs, gaps, keys⟩
  | accounts f => exact ⟨prefixes, plans, groups, circuits, calls, Table.wf_mapValues _ _ accounts, tariffs, gaps, keys⟩
  | tariff c t => exact ⟨prefixes, plans, groups, circuits, calls, accounts, Table.wf_put _ tariffs _ _, gaps, keys⟩
  | gaps t canon =>
    obtain ⟨gaps, keys⟩ := canon ⟨gaps, keys⟩
    exact ⟨prefixes, plans, groups, circuits, calls, accounts, tariffs, gaps, keys⟩
  | clock v trigger =>
    obtain ⟨_, _, _, same, wf, _⟩ := clockTo_frame s v trigger
    rw [same]
    exact ⟨prefixes, plans, groups, circuits, calls, accounts, wf tariffs, gaps, keys⟩

theorem canonical_write {s t : State} (h : Write s t) (canon : Canonical s) : Canonical t := by
  obtain ⟨prefixes, plans, groups, circuits, calls, accounts, tariffs, gaps, keys⟩ := canon
  cases h with
  | gentle h => exact canonical_gentle h ⟨prefixes, plans, groups, circuits, calls, accounts, tariffs, gaps, keys⟩
  | entry e => exact ⟨prefixesOrdered_putEntry e prefixes, plans, groups, circuits, calls, accounts, tariffs, gaps, keys⟩
  | eraseEntry ds =>
    exact ⟨prefixesOrdered_eraseEntry ds prefixes, plans, groups, circuits, calls, accounts, tariffs, gaps, keys⟩
  | group g grp => exact ⟨prefixes, plans, Table.wf_put _ groups _ _, circuits, calls, accounts, tariffs, gaps, keys⟩
  | eraseGroup g => exact ⟨prefixes, plans, Table.wf_erase _ groups _, circuits, calls, accounts, tariffs, gaps, keys⟩
  | circuits t wf => exact ⟨prefixes, plans, groups, wf circuits, calls, accounts, tariffs, gaps, keys⟩
  | call tag c => exact ⟨prefixes, plans, groups, circuits, Table.wf_put _ calls _ _, accounts, tariffs, gaps, keys⟩
  | eraseCall tag => exact ⟨prefixes, plans, groups, circuits, Table.wf_erase _ calls _, accounts, tariffs, gaps, keys⟩
  | eraseAccount k => exact ⟨prefixes, plans, groups, circuits, calls, Table.wf_erase _ accounts _, tariffs, gaps, keys⟩

theorem canonical_freeCalls {s : State} (canon : Canonical s) : Canonical s.freeCalls := by
  obtain ⟨prefixes, plans, groups, circuits, _, accounts, tariffs, gaps, keys⟩ := canon
  exact ⟨prefixes, plans, Table.wf_mapValues _ _ groups, Table.wf_mapValues _ _ circuits, rfl, accounts, tariffs, gaps, keys⟩

theorem canonical_kept : KeptByWrites Canonical where
  lif _ _ canon := canon
  queue _ _ _ canon := canon
  time _ _ _ canon := canon
  write _ _ h canon := canonical_write h canon
  freed _ canon := canonical_freeCalls canon
  cleared _ _ _ := ⟨rfl, rfl, rfl, rfl, rfl, rfl, rfl, rfl, rfl⟩

/-! ### The schedules ahead of the clock -/

/-- The classes as a move of the clock leaves them have no schedule that it reached (R164, R165). -/
theorem schedulesAhead_clockTo {s : State} (wf : s.chu.tariffs.wf = true) (ahead : SchedulesAhead s) {v : Nat}
    (range : v ≤ Config.max32) (trigger : TariffTrigger) : SchedulesAhead (s.clockTo v trigger) := by
  rw [clockTo_eq wf ahead]
  refine ⟨fun e he => ?_, range⟩
  obtain ⟨d, hd, rfl⟩ := List.mem_map.mp he
  by_cases reached : d.2.reached v = true
  · simp only [if_pos reached]
    exact TariffClass.scheduleLaw_of_none rfl v
  · simp only [if_neg reached]
    exact fun schedule => ⟨(ahead.1 d hd schedule).1, by simpa using reached⟩

theorem schedulesAhead_gentle {s t : State} (h : Gentle s t) (canon : Canonical s) (ahead : SchedulesAhead s) :
    SchedulesAhead t := by
  cases h with
  | tariff c t lawful =>
    refine ⟨fun e he => ?_, ahead.2⟩
    rcases Table.mem_put _ he with rfl | he
    · exact lawful ahead
    · exact ahead.1 e he
  | clock v trigger range =>
    obtain ⟨_, _, _, _, _, _, wf, _⟩ := canon
    exact schedulesAhead_clockTo wf ahead range trigger
  | offer | plan | group | groups | account | accounts | period | gaps | autoInterval | clockCount => exact ahead

/-- The move of the clock activates what it reaches in a canonical table, so the two laws are kept together. -/
theorem schedulesAhead_kept : KeptByWrites fun s => Canonical s ∧ SchedulesAhead s where
  lif _ _ law := law
  queue _ _ _ law := law
  time _ _ _ law := law
  write s t h law := by
    refine ⟨canonical_write h law.1, ?_⟩
    cases h with
    | gentle h => exact schedulesAhead_gentle h law.1 law.2
    | entry | eraseEntry | group | eraseGroup | circuits | call | eraseCall | eraseAccount => exact law.2
  freed _ law := ⟨canonical_freeCalls law.1, law.2⟩
  cleared s rate phase := ⟨canonical_kept.cleared s rate phase, nofun, Nat.zero_le _⟩

/-- Settles O58: every kind of write keeps the canonical form, and, in canonical tables, the schedules ahead of the clock. -/
theorem stepKeepsTablesAndSchedules : Obligations.StepKeepsTablesAndSchedules := by
  unfold Obligations.StepKeepsTablesAndSchedules
  exact fun s t canon h => ⟨canonical_kept.step h canon, fun ahead => (schedulesAhead_kept.step h ⟨canon, ahead⟩).2⟩

end Sys2Proof.Machine
end

section
/-! PROOFS. The queues of LIF (R171, R172, R174): what offers, the effects of a RESTART, the receiver and the out-line leave in them,
and that every step keeps them within their capacities, with one STRAIN for a group. -/

namespace Sys2Proof.Machine

/-! ### Offers -/

theorem foldl_offer_append (as bs : List Advisory) (l : Lif) :
    bs.foldl Lif.offer (as.foldl Lif.offer l) = (as ++ bs).foldl Lif.offer l := (List.foldl_append ..).symm

theorem foldl_offer_withServing (as : List Advisory) (l : Lif) (v : Option Serving) :
    as.foldl Lif.offer { l with serving := v } = { as.foldl Lif.offer l with serving := v } := by
  induction as generalizing l with
  | nil => rfl
  | cons a as ih => rw [List.foldl_cons, Lif.offer_withServing, ih]; rfl

/-- A write reaches LIF by offers alone, and the queue of commands not at all. -/
def offersOnly (s t : State) : Prop :=
  (∃ as : List Advisory, t.lif = as.foldl Lif.offer s.lif) ∧ t.pending = s.pending ∧ t.freeCounter = s.freeCounter

theorem offersOnly.of_lif {s t : State} (lif : t.lif = s.lif) (pending : t.pending = s.pending)
    (counter : t.freeCounter = s.freeCounter) : offersOnly s t := ⟨⟨[], lif⟩, pending, counter⟩

theorem offersOnly.trans {s t u : State} (h : offersOnly s t) (k : offersOnly t u) : offersOnly s u := by
  obtain ⟨⟨as, hl⟩, hp, hc⟩ := h
  obtain ⟨⟨bs, kl⟩, kp, kc⟩ := k
  exact ⟨⟨as ++ bs, by rw [kl, hl, foldl_offer_append]⟩, kp.trans hp, kc.trans hc⟩

theorem offersOnly_clockTo (s : State) (v : Nat) (trigger : TariffTrigger) : offersOnly s (s.clockTo v trigger) := by
  refine clockTo_induct (.of_lif rfl rfl rfl) fun u c t w a _ h => h.trans ⟨⟨[a], rfl⟩, rfl, rfl⟩

theorem offersOnly_gentle {s t : State} (h : Gentle s t) : offersOnly s t := by
  cases h with
  | offer a => exact ⟨⟨[a], rfl⟩, rfl, rfl⟩
  | clock v trigger => exact offersOnly_clockTo s v trigger
  | plan | group | groups | account | accounts | tariff | period | gaps | autoInterval | clockCount =>
    exact .of_lif rfl rfl rfl

theorem offersOnly_write {s t : State} (h : Write s t) : offersOnly s t := by
  cases h with
  | gentle h => exact offersOnly_gentle h
  | entry | eraseEntry | group | eraseGroup | circuits | call | eraseCall | eraseAccount => exact .of_lif rfl rfl rfl

theorem offersOnly_writes {s t : State} (h : Writes s t) : offersOnly s t :=
  h.keeps (P := offersOnly s) (fun _ _ one so => so.trans (offersOnly_write one)) (.of_lif rfl rfl rfl)

/-- The effects of a RESTART reach LIF by offers and by the progress of the RESTART, which stays in service. -/
theorem runEffects_lif (n : Nat) (s : State) :
    ∃ (as : List Advisory) (v : Option Serving),
      (State.runEffects n s).lif = { as.foldl Lif.offer s.lif with serving := v } ∧ v.isSome = s.lif.serving.isSome := by
  have written : ∀ (t u : State) (w : Serving), t.lif.serving.isSome = true → Writes t u →
      (∃ (as : List Advisory) (v : Option Serving),
        t.lif = { as.foldl Lif.offer s.lif with serving := v } ∧ v.isSome = s.lif.serving.isSome) →
      ∃ (as : List Advisory) (v : Option Serving),
        (u.withServing w).lif = { as.foldl Lif.offer s.lif with serving := v } ∧ v.isSome = s.lif.serving.isSome := by
    rintro t u w serving h ⟨as, v, lif, some⟩
    obtain ⟨⟨bs, same⟩, _⟩ := offersOnly_writes h
    refine ⟨as ++ bs, w, ?_, ?_⟩
    · rw [State.withServing_lif, same, lif, foldl_offer_withServing, foldl_offer_append]
    · rw [lif] at serving
      exact serving.symm.trans some
  refine runEffects_induct (fun t w serving ht => ?_) (fun t u w serving h ht => written t u w serving h.writes ht) n s
    ⟨[], s.lif.serving, rfl, rfl⟩
  exact written t t w serving .refl ht

/-! ### The bounds -/

/-- The bounds of the queues, and when one may hold something (R171, R172, R174, R178). -/
def Lif.bounded (l : Lif) : Prop :=
  l.requests.length ≤ 8 ∧ l.replies.length ≤ 8 ∧ l.advisories.length ≤ 32 ∧
    (l.serving.isSome = true → l.replies.length ≤ 7 ∧ l.phase = .running) ∧ (l.phase ≠ .running → l.requests = [])

theorem queuesBounded_iff (s : State) : QueuesBounded s ↔ s.lif.bounded := Iff.rfl

theorem advisoryCapacity_eq : Config.advisoryCapacity = 32 := rfl

theorem length_rewriteStrain (g level : Nat) (q : List Advisory) : (rewriteStrain g level q).length = q.length :=
  List.length_map _

theorem addAdvisory_length {l : Lif} (h : l.advisories.length ≤ 32) (a : Advisory) :
    (l.addAdvisory a).advisories.length ≤ 32 := by
  rw [Lif.addAdvisory]
  split
  next room =>
    rw [advisoryCapacity_eq] at room
    rw [List.length_append]
    exact room
  next => exact h

/-- An advisory added changes the advisory queue and ADVISORY_LOST alone. -/
theorem addAdvisory_eq (l : Lif) (a : Advisory) :
    l.addAdvisory a =
      { l with advisories := (l.addAdvisory a).advisories, advisoryLost := (l.addAdvisory a).advisoryLost } := by
  rw [Lif.addAdvisory]
  split <;> rfl

theorem offer_length {l : Lif} (h : l.advisories.length ≤ 32) (a : Advisory) : (l.offer a).advisories.length ≤ 32 := by
  rw [Lif.offer]
  split
  · exact h
  · cases a with
    | strain g level =>
      rw [Lif.enqueue]
      split
      · exact Nat.le_trans (Nat.le_of_eq (length_rewriteStrain g level _)) h
      · exact addAdvisory_length h _
    | restarted calls gaps =>
      rw [Lif.enqueue]
      split
      next room =>
        rw [advisoryCapacity_eq] at room
        rw [List.length_append]
        exact room
      next full =>
        rw [advisoryCapacity_eq] at full
        simp only [List.length_append, List.length_dropLast, List.length_singleton]
        omega
    | timeout | suspended | restored | gapOn | gapOff | closeHeld | closed | tariffOn | ready =>
      exact addAdvisory_length h _

theorem foldl_keeps {α β : Type} {P : α → Prop} {f : α → β → α} (one : ∀ a b, P a → P (f a b)) (l : List β) {a : α}
    (h : P a) : P (l.foldl f a) := by
  induction l generalizing a with
  | nil => exact h
  | cons b l ih => exact ih (one a b h)

theorem Lif.bounded.offer {l : Lif} (h : l.bounded) (a : Advisory) : (l.offer a).bounded := by
  obtain ⟨requests, replies, advisories, serving, stopped⟩ := h
  rw [Lif.offer_eq]
  exact ⟨requests, replies, offer_length advisories a, serving, stopped⟩

theorem Lif.bounded.offers {l : Lif} (h : l.bounded) (as : List Advisory) : (as.foldl Lif.offer l).bounded :=
  foldl_keeps (P := Lif.bounded) (fun _ a hl => hl.offer a) as h

theorem Lif.bounded.runEffects {s : State} (h : s.lif.bounded) (n : Nat) : (State.runEffects n s).lif.bounded := by
  obtain ⟨as, v, lif, some⟩ := runEffects_lif n s
  obtain ⟨requests, replies, advisories, serving, stopped⟩ := h.offers as
  rw [foldl_offer_eq] at serving
  rw [lif]
  refine ⟨requests, replies, advisories, fun isSome => ?_, stopped⟩
  rw [foldl_offer_eq]
  exact serving (some.symm.trans isSome)

/-! ### The receiver and the out-line -/

theorem Lif.bounded.frameDone {l : Lif} (h : l.bounded) (f : Frame) : (l.frameDone f).bounded := by
  obtain ⟨requests, replies, advisories, serving, stopped⟩ := h
  have requestCapacity : Config.requestCapacity = 8 := rfl
  have replyCapacity : Config.replyCapacity = 8 := rfl
  rw [Lif.frameDone]
  split
  next initialising =>
    rw [Lif.answerNotReady]
    split
    next room =>
      refine ⟨requests, ?_, advisories, fun served => ?_, stopped⟩
      · rw [replyCapacity] at room
        rw [List.length_append]
        exact room
      · exact absurd (initialising.symm.trans (serving served).2) nofun
    next => exact ⟨requests, replies, advisories, serving, stopped⟩
  next running =>
    rw [Lif.queueFrame]
    split
    next room =>
      refine ⟨?_, replies, advisories, serving, fun other => absurd running other⟩
      rw [requestCapacity] at room
      rw [List.length_append]
      exact room
    next => exact ⟨requests, replies, advisories, serving, stopped⟩
  next => exact ⟨requests, replies, advisories, serving, stopped⟩

theorem Lif.bounded.character {l : Lif} (h : l.bounded) (now : Nat) (b : Byte) : (Lif.character now l b).bounded := by
  rw [Lif.character]
  split
  · split <;> exact h
  · simp only [Lif.inFrame]
    split
    · exact h
    · split
      · exact h
      · split
        · exact h
        · split
          · exact Lif.bounded.frameDone (l := { l with receiver := .hunting }) h _
          · exact h

/-- What is left of the advisory queue when one is taken stands in its order. -/
theorem sublist_of_takeAdvisory {q rest : List Advisory} {a : Advisory} (h : takeAdvisory q = some (a, rest)) :
    rest.Sublist q := by
  induction q generalizing a rest with
  | nil => cases h
  | cons b q ih =>
    rw [takeAdvisory] at h
    split at h
    · cases h; exact List.nil_sublist _
    next c others taken =>
      split at h <;> cases h
      · exact List.sublist_cons_self _ _
      · exact (ih taken).cons_cons b

/-- What the out-line leaves of the queues. -/
theorem sendNext_lif (s : State) :
    (∃ f rest, s.lif.replies = f :: rest ∧ s.sendNext.lif = { s.lif with replies := rest, outLine := some f.onLine }) ∨
      ∃ rest line, rest.Sublist s.lif.advisories ∧ s.sendNext.lif = { s.lif with advisories := rest, outLine := line } := by
  rw [State.sendNext]
  split
  next f rest replies => exact .inl ⟨f, rest, replies, rfl⟩
  next =>
    split
    next => exact .inr ⟨_, _, .refl _, rfl⟩
    next a rest taken => exact .inr ⟨rest, _, sublist_of_takeAdvisory taken, rfl⟩

theorem Lif.bounded.endReset {l : Lif} (h : l.bounded) (r : LinkReset) : (l.endReset r).bounded := by
  rw [Lif.endReset]
  split
  · exact h
  · exact Lif.bounded.offer
      (l := { l with linkReset := none, advisoryLost := false, overrun := false, linkError := false }) h _

theorem Lif.bounded.linkMove {s : State} {l : Lif} (move : LinkMove s l) (h : s.lif.bounded) : l.bounded := by
  cases move with
  | characters cs => exact foldl_keeps (P := Lif.bounded) (fun l b hl => Lif.bounded.character hl _ b) cs h
  | abandon => exact h
  | sent =>
    obtain ⟨requests, replies, advisories, serving, stopped⟩ := h
    rcases sendNext_lif s with ⟨f, rest, before, lif⟩ | ⟨rest, line, sublist, lif⟩
    · rw [before, List.length_cons] at replies serving
      rw [lif]
      exact ⟨requests, Nat.le_of_succ_le replies, advisories,
        fun served => ⟨Nat.le_of_succ_le (serving served).1, (serving served).2⟩, stopped⟩
    · rw [lif]
      exact ⟨requests, replies, Nat.le_trans sublist.length_le advisories, serving, stopped⟩
  | resetBegins =>
    obtain ⟨_, _, _, serving, _⟩ := h
    exact ⟨Nat.zero_le _, Nat.zero_le _, Nat.zero_le _, fun served => ⟨Nat.zero_le _, (serving served).2⟩, fun _ => rfl⟩
  | marking r => exact h
  | resetEnds r => exact h.endReset r

/-! ### A step -/

/-- A reply joins a queue that has room, with no RESTART in service (R172). -/
theorem Lif.bounded.reply {s : State} (h : s.lif.bounded) (room : s.lif.replies.length ≤ 7) (idle : s.lif.serving = none)
    (kind number : Byte) (fields : List Byte) : (s.reply kind number fields).lif.bounded := by
  obtain ⟨requests, _, advisories, _, stopped⟩ := h
  refine ⟨requests, ?_, advisories, fun served => ?_, stopped⟩
  · simpa using Nat.succ_le_succ room
  · have served : s.lif.serving.isSome = true := served
    rw [idle] at served
    cases served

theorem Lif.bounded.popRequest {s : State} (h : s.lif.bounded) : s.popRequest.lif.bounded := by
  obtain ⟨requests, replies, advisories, serving, stopped⟩ := h
  refine ⟨?_, replies, advisories, serving, fun other => ?_⟩
  · rw [State.popRequest_lif, List.length_tail]
    omega
  · rw [State.popRequest_lif, stopped other]
    rfl

theorem Lif.bounded.completeRestart {s : State} (h : s.lif.bounded) : s.completeRestart.lif.bounded := by
  rw [State.completeRestart]
  split
  · exact h
  next v serving =>
    obtain ⟨requests, replies, advisories, room, stopped⟩ := h
    obtain ⟨room, _⟩ := room (by rw [serving]; rfl)
    have replied : Lif.bounded { (s.replyRestart v).lif with serving := none } := by
      rw [State.replyRestart]
      split
      · exact ⟨requests, replies, advisories, nofun, stopped⟩
      · refine ⟨requests, ?_, advisories, nofun, stopped⟩
        simpa using Nat.succ_le_succ room
    rw [State.withLif_lif, Lif.endResetIfMarking]
    (repeat' split)
    · exact replied
    · exact replied.endReset _
    · exact replied

theorem Lif.bounded.does {s t : State} (d : Does s t) (h : s.lif.bounded) : t.lif.bounded := by
  cases d with
  | block m =>
    obtain ⟨⟨as, lif⟩, _⟩ := offersOnly_writes m.writes
    rw [lif]
    exact h.offers as
  | @served u kind number body fields takes m =>
    obtain ⟨_, _, idle, room, _⟩ := takes
    obtain ⟨⟨as, lif⟩, _⟩ := offersOnly_writes m.writes
    refine Lif.bounded.reply (s := u) ?_ ?_ ?_ kind number fields
    · rw [lif]; exact h.popRequest.offers as
    · rw [lif, foldl_offer_replies]; exact Nat.le_of_lt_succ room
    · rw [lif, foldl_offer_eq]; exact idle
  | status number body takes =>
    obtain ⟨_, _, idle, room, _⟩ := takes
    exact h.popRequest.reply (Nat.le_of_lt_succ room) idle _ _ _
  | restartTaken number body takes =>
    obtain ⟨running, _, _, room, _⟩ := takes
    obtain ⟨requests, replies, _, _, stopped⟩ := h.popRequest
    refine Lif.bounded.runEffects (s := s.popRequest.restartTaken number) ?_ _
    exact ⟨requests, replies, Nat.zero_le _, fun _ => ⟨Nat.le_of_lt_succ room, running⟩, stopped⟩
  | restartGoesOn => exact h.runEffects _
  | restartCompletes => exact (h.runEffects _).completeRestart
  | link move => exact h.linkMove move
  | cleared rate phase => exact ⟨Nat.zero_le _, Nat.zero_le _, Nat.zero_le _, nofun, fun _ => rfl⟩
  | initDone initialising =>
    obtain ⟨requests, replies, advisories, serving, stopped⟩ := h
    have length := addAdvisory_length (l := { s.lif with
      phase := .running, initElapsed := 0, advisoryLost := false, overrun := false, linkError := false }) advisories
      (.ready .powerOn)
    have idle : s.lif.serving.isSome = true → False := fun served =>
      absurd (initialising.symm.trans (serving served).2) nofun
    have lif : ((s.withLif Lif.initDone).setTime { s.tmb with clockCount := 0 }).lif = s.lif.initDone := rfl
    rw [lif, Lif.initDone]
    rw [addAdvisory_eq] at length ⊢
    exact ⟨requests, replies, length, fun served => (idle served).elim, fun other => absurd rfl other⟩

theorem Lif.bounded.tick {s : State} (h : s.lif.bounded) : s.tick.lif.bounded := by
  rw [State.tick]
  split
  · exact h
  · obtain ⟨requests, replies, advisories, serving, stopped⟩ := h
    refine ⟨requests, replies, advisories, fun served => serving ?_, stopped⟩
    have served : (s.lif.serving.map Serving.tick).isSome = true := served
    rwa [Option.isSome_map] at served

/-! ### One STRAIN for a group -/

/-- No group has two STRAIN advisories in a queue (R174). -/
def oneStrain (q : List Advisory) : Prop := (q.filterMap Advisory.strainGroup).Nodup

theorem oneStrainPerGroup_iff (s : State) : OneStrainPerGroup s ↔ oneStrain s.lif.advisories := Iff.rfl

theorem oneStrain.sublist {p q : List Advisory} (h : oneStrain q) (sub : p.Sublist q) : oneStrain p :=
  List.Nodup.sublist (sub.filterMap _) h

theorem isStrainOf_iff (g : Nat) (a : Advisory) : a.isStrainOf g = true ↔ a.strainGroup = some g := by
  cases a <;> simp [Advisory.isStrainOf, Advisory.strainGroup]

theorem strainGroups_rewriteStrain (g level : Nat) (q : List Advisory) :
    (rewriteStrain g level q).filterMap Advisory.strainGroup = q.filterMap Advisory.strainGroup := by
  rw [rewriteStrain, List.filterMap_map]
  refine congrArg (q.filterMap ·) (funext fun a => ?_)
  rw [Function.comp]
  split
  next same => exact ((isStrainOf_iff g a).mp same).symm
  next => rfl

/-- An advisory with no STRAIN of its group in the queue joins it. -/
theorem oneStrain.append {q : List Advisory} (h : oneStrain q) {a : Advisory}
    (fresh : ∀ g, a.strainGroup = some g → ∀ b ∈ q, b.strainGroup ≠ some g) : oneStrain (q ++ [a]) := by
  rw [oneStrain, List.filterMap_append]
  cases group : a.strainGroup with
  | none =>
    rw [List.filterMap_cons_none group, List.filterMap_nil, List.append_nil]
    exact h
  | some g =>
    rw [List.filterMap_cons_some group, List.filterMap_nil, List.nodup_append]
    refine ⟨h, by simp, fun i queued j new same => ?_⟩
    obtain ⟨b, hb, strain⟩ := List.mem_filterMap.mp queued
    rw [same, List.mem_singleton.mp new] at strain
    exact fresh g group b hb strain

theorem oneStrain.addAdvisory {l : Lif} (h : oneStrain l.advisories) {a : Advisory}
    (fresh : ∀ g, a.strainGroup = some g → ∀ b ∈ l.advisories, b.strainGroup ≠ some g) :
    oneStrain (l.addAdvisory a).advisories := by
  rw [Lif.addAdvisory]
  split
  · exact h.append fresh
  · exact h

theorem oneStrain.offer {l : Lif} (h : oneStrain l.advisories) (a : Advisory) : oneStrain (l.offer a).advisories := by
  rw [Lif.offer]
  split
  · exact h
  · cases a with
    | strain g level =>
      rw [Lif.enqueue]
      split
      · rwa [oneStrain, strainGroups_rewriteStrain]
      next absent =>
        refine h.addAdvisory fun g' same b hb named => absent (List.any_eq_true.mpr ⟨b, hb, ?_⟩)
        cases same
        exact (isStrainOf_iff g b).mpr named
    | restarted calls gaps =>
      rw [Lif.enqueue]
      split
      · exact h.append nofun
      · exact (h.sublist (List.dropLast_sublist _)).append nofun
    | timeout | suspended | restored | gapOn | gapOff | closeHeld | closed | tariffOn | ready => exact h.addAdvisory nofun

theorem oneStrain.offers {l : Lif} (h : oneStrain l.advisories) (as : List Advisory) :
    oneStrain (as.foldl Lif.offer l).advisories :=
  foldl_keeps (P := fun l : Lif => oneStrain l.advisories) (fun _ a hl => hl.offer a) as h

theorem oneStrain.endReset {l : Lif} (h : oneStrain l.advisories) (r : LinkReset) : oneStrain (l.endReset r).advisories := by
  rw [Lif.endReset]
  split
  · exact h
  · exact oneStrain.offer
      (l := { l with linkReset := none, advisoryLost := false, overrun := false, linkError := false }) h _

theorem oneStrain.runEffects {s : State} (h : oneStrain s.lif.advisories) (n : Nat) :
    oneStrain (State.runEffects n s).lif.advisories := by
  obtain ⟨as, v, lif, _⟩ := runEffects_lif n s
  rw [lif]
  exact h.offers as

/-- A completed frame leaves the advisory queue as it was. -/
theorem frameDone_advisories (l : Lif) (f : Frame) : (l.frameDone f).advisories = l.advisories := by
  rw [Lif.frameDone]
  split
  · rw [Lif.answerNotReady]
    split <;> rfl
  · rw [Lif.queueFrame]
    split <;> rfl
  · rfl

/-- A character leaves the advisory queue as it was. -/
theorem character_advisories (now : Nat) (l : Lif) (b : Byte) : (Lif.character now l b).advisories = l.advisories := by
  rw [Lif.character]
  split
  · split <;> rfl
  · simp only [Lif.inFrame]
    split
    · rfl
    · split
      · rfl
      · split
        · rfl
        · split
          · exact frameDone_advisories _ _
          · rfl

theorem oneStrain.linkMove {s : State} {l : Lif} (move : LinkMove s l) (h : oneStrain s.lif.advisories) :
    oneStrain l.advisories := by
  cases move with
  | characters cs =>
    exact foldl_keeps (P := fun l : Lif => oneStrain l.advisories) (fun l b hl => by rwa [character_advisories]) cs h
  | sent =>
    rcases sendNext_lif s with ⟨f, rest, _, lif⟩ | ⟨rest, line, sublist, lif⟩
    · rw [lif]; exact h
    · rw [lif]; exact h.sublist sublist
  | resetBegins => exact List.nodup_nil
  | resetEnds r => exact h.endReset r
  | abandon | marking => exact h

theorem oneStrain.completeRestart {s : State} (h : oneStrain s.lif.advisories) :
    oneStrain s.completeRestart.lif.advisories := by
  have replied : ∀ v, (s.replyRestart v).lif.advisories = s.lif.advisories := by
    intro v
    rw [State.replyRestart]
    split <;> rfl
  rw [State.completeRestart]
  split
  · exact h
  next v _ =>
    rw [State.withLif_lif, Lif.endResetIfMarking]
    (repeat' split)
    · rwa [replied]
    · exact oneStrain.endReset (l := { (s.replyRestart v).lif with serving := none }) (by rwa [replied]) _
    · rwa [replied]

theorem oneStrain.does {s t : State} (d : Does s t) (h : oneStrain s.lif.advisories) : oneStrain t.lif.advisories := by
  cases d with
  | block m =>
    obtain ⟨⟨as, lif⟩, _⟩ := offersOnly_writes m.writes
    rw [lif]
    exact h.offers as
  | served kind number body fields takes m =>
    obtain ⟨⟨as, lif⟩, _⟩ := offersOnly_writes m.writes
    rw [State.reply_lif, lif]
    exact oneStrain.offers (l := s.popRequest.lif) h as
  | status number body takes => exact h
  | restartTaken number body takes => exact oneStrain.runEffects (s := s.popRequest.restartTaken number) List.nodup_nil _
  | restartGoesOn => exact h.runEffects _
  | restartCompletes => exact (h.runEffects _).completeRestart
  | link move => exact h.linkMove move
  | cleared rate phase => exact List.nodup_nil
  | initDone _ =>
    exact oneStrain.addAdvisory (l := { s.lif with
      phase := .running, initElapsed := 0, advisoryLost := false, overrun := false, linkError := false }) h nofun

theorem oneStrain.tick {s : State} (h : oneStrain s.lif.advisories) : oneStrain s.tick.lif.advisories := by
  rw [State.tick]
  split <;> exact h

/-! ### The statement -/

/-- Settles O55: the bounds and the single STRAIN are laws of LIF alone, kept by a tick and by whatever a command does. -/
theorem stepKeepsQueueLaws : Obligations.StepKeepsQueueLaws := by
  unfold Obligations.StepKeepsQueueLaws
  intro s t h
  refine step_cases (P := fun s t => (QueuesBounded s → QueuesBounded t) ∧ (OneStrainPerGroup s → OneStrainPerGroup t)) h
    ⟨Lif.bounded.tick, oneStrain.tick⟩ fun rest d => ?_
  exact ⟨fun bounded => Lif.bounded.does d bounded, fun one => oneStrain.does d one⟩

end Sys2Proof.Machine
end

section
/-! PROOFS. The laws between the records (R16, R17, R18, R25, R77, R78, R102, R126) in a form that each write can be held against: at one
group, one circuit, one call at a time, and with the calls given apart from the call table, since a request may stand between the
release of a circuit and the removal of its call. Gentle writes keep them. -/

namespace Sys2Proof.Machine

/-! ### The laws at one record -/

/-- The timer that runs is the one of the call's state (R78). -/
def Call.timersAgree (c : Call) : Prop :=
  (c.supervision.isSome = true ↔ c.state = .seizing) ∧ (c.chargeStep.isSome = true ↔ c.state = .answered)

/-- What a live call relies on (R16, R77, R78, R102, R126). -/
structure CallTied (s : State) (tag : Nat) (c : Call) : Prop where
  live : tag ≠ 0
  timers : c.timersAgree
  plan : (s.plan? c.plan).isSome = true
  incoming : (s.account? c.incoming).isSome = true
  group : ∃ grp, s.group? c.group = some grp ∧ grp.config.tariffClass = c.tariffClass ∧ (c.probe = true → grp.probe = some tag)
  circuit : ∃ circ, s.circuit? c.circuit = some circ ∧ circ.owner = c.group ∧ circ.state = .busy tag

/-- A probe of a group: a live call of the group with its flag set, while the group is under trial (R102). -/
def ProbeTied (calls : Nat → Option Call) (g tag : Nat) (service : ServiceState) : Prop :=
  (∃ c, calls tag = some c ∧ c.group = g ∧ c.probe = true) ∧ (service = .reopenFirst ∨ service = .reopenSecond)

/-- The laws between the prefixes, the plans, the groups, the circuits and the accounts (R16, R17, R18, R25, R126). -/
structure Framed (s : State) : Prop where
  prefixes : ∀ e ∈ s.rsl.prefixes, (s.plan? e.plan).isSome = true
  names : ∀ g grp, s.group? g = some grp →
    (s.account? grp.config.carrier).isSome = true ∧ (s.tariff? grp.config.tariffClass).isSome = true
  owned : ∀ i c, s.circuit? i = some c → ∃ grp, s.group? c.owner = some grp ∧ grp.config.inRange i = true
  idle : ∀ g grp, s.group? g = some grp → grp.idleCount = s.idleCircuitCount g
  owns : ∀ g grp i, s.group? g = some grp → grp.config.inRange i = true → ∃ c, s.circuit? i = some c ∧ c.owner = g

/-- The laws between the records of a state and the calls that stand (R77, R78, R102, R126). -/
structure Tied (s : State) (calls : Nat → Option Call) : Prop extends Framed s where
  tied : ∀ tag c, calls tag = some c → CallTied s tag c
  busy : ∀ i c tag, s.circuit? i = some c → c.state = .busy tag → ∃ call, calls tag = some call ∧ call.circuit = i
  probes : ∀ g grp tag, s.group? g = some grp → grp.probe = some tag → ProbeTied calls g tag grp.service

/-! ### The same laws -/

/-- In a canonical table a condition on every listed record is one on every record read. -/
theorem forall_mem_iff_get? {α : Type} {t : Table α} (wf : t.wf = true) (p : Nat → α → Prop) :
    (∀ e ∈ t, p e.1 e.2) ↔ ∀ k v, t.get? k = some v → p k v :=
  ⟨fun h k v held => h (k, v) (Table.mem_of_get? t held), fun h e he => h e.1 e.2 (Table.get?_of_mem t wf he)⟩

theorem inRange_iff (c : GroupConfig) (i : Nat) :
    c.inRange i = true ↔ i ∈ List.range' c.firstCircuit c.circuitCount := by
  simp [GroupConfig.inRange, List.mem_range'_1]

/-- The laws of one call, as the two statements about every call put them. -/
theorem callTied_iff (s : State) (tag : Nat) (c : Call) :
    CallTied s tag c ↔
      (s.holdsCircuit tag c = true ∧ s.hasInputs c = true ∧ tag ≠ 0) ∧ s.probeNamed tag c = true ∧ c.timersAgree := by
  simp only [State.holdsCircuit, State.hasInputs, State.probeNamed, Option.any_eq_true, Bool.and_eq_true, Bool.or_eq_true,
    decide_eq_true_eq, Bool.not_eq_true']
  constructor
  · rintro ⟨live, timers, plan, incoming, ⟨grp, held, cls, probe⟩, circ, stands, owner, state⟩
    refine ⟨⟨⟨circ, stands, owner, state⟩, ⟨⟨plan, incoming⟩, grp, held, cls⟩, live⟩, ?_, timers⟩
    cases flag : c.probe with
    | false => exact .inl rfl
    | true => exact .inr ⟨grp, held, probe flag⟩
  · rintro ⟨⟨⟨circ, stands, owner, state⟩, ⟨⟨plan, incoming⟩, grp, held, cls⟩, live⟩, probe, timers⟩
    refine ⟨live, timers, plan, incoming, ⟨grp, held, cls, fun flag => ?_⟩, circ, stands, owner, state⟩
    rcases probe with clear | ⟨other, there, named⟩
    · rw [flag] at clear; cases clear
    · rw [held] at there; cases there; exact named

theorem probeLaw_iff (s : State) (g : Nat) (grp : Group) :
    s.probeLaw g grp = true ↔ ∀ tag, grp.probe = some tag → ProbeTied s.call? g tag grp.service := by
  rw [State.probeLaw]
  cases grp.probe with
  | none => simp
  | some tag => simp [ProbeTied, Option.any_eq_true]

theorem circuitNamed_iff (s : State) (i : Nat) (c : Circuit) :
    s.circuitNamed i c = true ↔ ∀ tag, c.state = .busy tag → ∃ call, s.call? tag = some call ∧ call.circuit = i := by
  rw [State.circuitNamed]
  cases c.state <;> simp [Option.any_eq_true]

/-- In canonical tables the laws between the records are the laws at each record that is read. -/
theorem recordLaws_iff (s : State) : RecordLaws s ↔ Canonical s ∧ Tied s s.call? := by
  refine and_congr_right fun canon => ?_
  obtain ⟨_, _, groups, circuits, calls, _⟩ := canon
  have owned := forall_mem_iff_get? circuits
    fun i c => (s.group? c.owner).any (fun grp => grp.config.inRange i) = true
  have named := forall_mem_iff_get? circuits fun i c => s.circuitNamed i c = true
  have configured := forall_mem_iff_get? groups fun _ grp =>
    (s.account? grp.config.carrier).isSome = true ∧ (s.tariff? grp.config.tariffClass).isSome = true
  have ranges := forall_mem_iff_get? groups fun g grp => grp.idleCount = s.idleCircuitCount g ∧
    ∀ i ∈ List.range' grp.config.firstCircuit grp.config.circuitCount,
      (s.circuit? i).any (fun c => decide (c.owner = g)) = true
  have probes := forall_mem_iff_get? groups fun g grp => s.probeLaw g grp = true
  have inputs := forall_mem_iff_get? calls fun tag c =>
    s.holdsCircuit tag c = true ∧ s.hasInputs c = true ∧ tag ≠ 0
  have flags := forall_mem_iff_get? calls fun tag c => s.probeNamed tag c = true
  have timers := forall_mem_iff_get? calls fun _ c => c.timersAgree
  constructor
  · rintro ⟨prefixes, h1, h2, h3, h4, h5, ⟨h6, h7⟩, h8⟩
    refine ⟨⟨prefixes, configured.mp h1, fun i c held => ?_, fun g grp held => (ranges.mp h3 g grp held).1,
      fun g grp i held within => ?_⟩, fun tag c held => ?_, fun i c tag held => ?_, fun g grp tag held => ?_⟩
    · simpa [Option.any_eq_true] using owned.mp h2 i c held
    · simpa [Option.any_eq_true] using (ranges.mp h3 g grp held).2 i ((inRange_iff _ _).mp within)
    · exact (callTied_iff s tag c).mpr ⟨inputs.mp h4 tag c held, flags.mp h7 tag c held, timers.mp h8 tag c held⟩
    · exact (circuitNamed_iff s i c).mp (named.mp h5 i c held) tag
    · exact (probeLaw_iff s g grp).mp (probes.mp h6 g grp held) tag
  · intro h
    have tied := fun tag c held => (callTied_iff s tag c).mp (h.tied tag c held)
    refine ⟨h.prefixes, configured.mpr h.names, owned.mpr fun i c held => ?_,
      ranges.mpr fun g grp held => ⟨h.idle g grp held, fun i within => ?_⟩, inputs.mpr fun tag c held => (tied tag c held).1,
      named.mpr fun i c held => (circuitNamed_iff s i c).mpr fun tag => h.busy i c tag held,
      ⟨probes.mpr fun g grp held => (probeLaw_iff s g grp).mpr fun tag => h.probes g grp tag held,
        flags.mpr fun tag c held => (tied tag c held).2.1⟩,
      timers.mpr fun tag c held => (tied tag c held).2.2⟩
    · simpa [Option.any_eq_true] using h.owned i c held
    · simpa [Option.any_eq_true] using h.owns g grp i held ((inRange_iff _ _).mpr within)

/-! ### What gentle writes keep -/

/-- Two states between which the circuits and the calls stand, and so does what they rely on of the other records. -/
structure Relied (s t : State) : Prop where
  prefixes : t.rsl.prefixes = s.rsl.prefixes
  plans : ∀ p, (s.plan? p).isSome = true → (t.plan? p).isSome = true
  accounts : ∀ k, (s.account? k).isSome = true → (t.account? k).isSome = true
  tariffs : ∀ c, (s.tariff? c).isSome = true → (t.tariff? c).isSome = true
  circuits : t.tgm.circuits = s.tgm.circuits
  calls : t.ctb = s.ctb
  groups : ∀ g, (s.group? g = none ∧ t.group? g = none) ∨
    ∃ a b, s.group? g = some a ∧ t.group? g = some b ∧ b.reliesAs a

theorem Group.reliesAs.refl (grp : Group) : grp.reliesAs grp := ⟨rfl, rfl, rfl, .inr rfl⟩

theorem Group.reliesAs.trans {a b c : Group} (h : c.reliesAs b) (k : b.reliesAs a) : c.reliesAs a := by
  obtain ⟨hconfig, hidle, hprobe, hservice⟩ := h
  obtain ⟨kconfig, kidle, kprobe, kservice⟩ := k
  refine ⟨hconfig.trans kconfig, hidle.trans kidle, hprobe.trans kprobe, ?_⟩
  rcases kservice with none | same
  · exact .inl none
  · rcases hservice with none | same'
    · exact .inl (kprobe.symm.trans none)
    · exact .inr (same'.trans same)

namespace Relied

/-- A group stands on both sides. -/
theorem group {s t : State} (h : Relied s t) {g : Nat} {a : Group} (held : s.group? g = some a) :
    ∃ b, t.group? g = some b ∧ b.reliesAs a := by
  rcases h.groups g with ⟨none, _⟩ | ⟨a', b, before, after, relies⟩
  · rw [held] at none; cases none
  · rw [held] at before; cases before; exact ⟨b, after, relies⟩

theorem group_back {s t : State} (h : Relied s t) {g : Nat} {b : Group} (held : t.group? g = some b) :
    ∃ a, s.group? g = some a ∧ b.reliesAs a := by
  rcases h.groups g with ⟨_, none⟩ | ⟨a, b', before, after, relies⟩
  · rw [held] at none; cases none
  · rw [held] at after; cases after; exact ⟨a, before, relies⟩

/-- A state that differs in LIF, the gaps and the time alone. -/
theorem of_same {s t : State} (rsl : t.rsl = s.rsl) (tgm : t.tgm = s.tgm) (chu : t.chu = s.chu) (ctb : t.ctb = s.ctb) :
    Relied s t := by
  have groups : ∀ g, t.group? g = s.group? g := fun g => by rw [State.group?, State.group?, tgm]
  refine ⟨by rw [rsl], fun p h => ?_, fun k h => ?_, fun c h => ?_, by rw [tgm], ctb, fun g => ?_⟩
  · rwa [State.plan?, rsl]
  · rwa [State.account?, chu]
  · rwa [State.tariff?, chu]
  · rw [groups]
    cases s.group? g with
    | none => exact .inl ⟨rfl, rfl⟩
    | some a => exact .inr ⟨a, a, rfl, rfl, .refl a⟩

theorem refl (s : State) : Relied s s := of_same rfl rfl rfl rfl

theorem trans {s t u : State} (h : Relied s t) (k : Relied t u) : Relied s u := by
  refine ⟨k.prefixes.trans h.prefixes, fun p => k.plans p ∘ h.plans p, fun c => k.accounts c ∘ h.accounts c,
    fun c => k.tariffs c ∘ h.tariffs c, k.circuits.trans h.circuits, k.calls.trans h.calls, fun g => ?_⟩
  rcases h.groups g with ⟨before, none⟩ | ⟨a, b, before, between, relies⟩
  · rcases k.groups g with ⟨_, after⟩ | ⟨b, _, some, _⟩
    · exact .inl ⟨before, after⟩
    · rw [none] at some; cases some
  · obtain ⟨c, after, relies'⟩ := k.group between
    exact .inr ⟨a, c, before, after, relies'.trans relies⟩

end Relied

theorem isSome_put {α : Type} (t : Table α) (k : Nat) (v : α) {j : Nat} (h : (t.get? j).isSome = true) :
    ((t.put k v).get? j).isSome = true := by
  rw [Table.get?_put]
  split
  · rfl
  · exact h

theorem isSome_mapValues {α : Type} (t : Table α) (f : Nat → α → α) {j : Nat} (h : (t.get? j).isSome = true) :
    ((t.mapValues f).get? j).isSome = true := by
  rw [Table.get?_mapValues, Option.isSome_map]
  exact h

theorem relied_gentle {s t : State} (h : Gentle s t) : Relied s t := by
  have unchanged := fun g => (Relied.refl s).groups g
  cases h with
  | offer | period | gaps | autoInterval | clockCount => exact ⟨rfl, fun _ => id, fun _ => id, fun _ => id, rfl, rfl, unchanged⟩
  | plan p q => exact ⟨rfl, fun _ => isSome_put _ _ _, fun _ => id, fun _ => id, rfl, rfl, unchanged⟩
  | account k a => exact ⟨rfl, fun _ => id, fun _ => isSome_put _ _ _, fun _ => id, rfl, rfl, unchanged⟩
  | accounts f => exact ⟨rfl, fun _ => id, fun _ => isSome_mapValues _ _, fun _ => id, rfl, rfl, unchanged⟩
  | tariff c t => exact ⟨rfl, fun _ => id, fun _ => id, fun _ => isSome_put _ _ _, rfl, rfl, unchanged⟩
  | group g before after held relied =>
    refine ⟨rfl, fun _ => id, fun _ => id, fun _ => id, rfl, rfl, fun j => ?_⟩
    by_cases same : j = g
    · subst same
      exact .inr ⟨before, after, held, State.group_putGroup_self _ _ _, relied⟩
    · rw [State.group_putGroup_ne _ _ _ _ same]
      exact unchanged j
  | groups f relied =>
    refine ⟨rfl, fun _ => id, fun _ => id, fun _ => id, rfl, rfl, fun g => ?_⟩
    rw [State.group_setGroups, Table.get?_mapValues]
    cases held : s.tgm.groups.get? g with
    | none => exact .inl ⟨held, rfl⟩
    | some a => exact .inr ⟨a, _, held, rfl, relied g a⟩
  | clock v trigger =>
    obtain ⟨_, tariffs, _, same, _, present⟩ := clockTo_frame s v trigger
    rw [same]
    exact ⟨rfl, fun _ => id, fun _ => id, fun c held => (present c).trans held, rfl, rfl, unchanged⟩

theorem relied_gentles {s t : State} (h : Gentles s t) : Relied s t :=
  h.keeps (P := Relied s) (fun _ _ one so => so.trans (relied_gentle one)) (.refl s)

/-- What a call relies on stands. -/
theorem CallTied.relied {s t : State} (h : Relied s t) {tag : Nat} {c : Call} (k : CallTied s tag c) : CallTied t tag c := by
  obtain ⟨live, timers, plan, incoming, ⟨grp, held, cls, probe⟩, circ, stands, owner, state⟩ := k
  obtain ⟨after, there, config, _, sameProbe, _⟩ := h.group held
  refine ⟨live, timers, h.plans _ plan, h.accounts _ incoming, ⟨after, there, ?_, fun flag => ?_⟩, circ, ?_, owner, state⟩
  · rw [config]; exact cls
  · rw [sameProbe]; exact probe flag
  · rw [State.circuit?, h.circuits]; exact stands

/-- What gentle writes leave as it was is all that the laws read. -/
theorem Tied.relied {s t : State} {calls : Nat → Option Call} (h : Relied s t) (k : Tied s calls) : Tied t calls := by
  have circuit : ∀ i, t.circuit? i = s.circuit? i := fun i => by rw [State.circuit?, State.circuit?, h.circuits]
  have idle : ∀ g, t.idleCircuitCount g = s.idleCircuitCount g := fun g => by
    rw [State.idleCircuitCount, State.countCircuits, h.circuits]; rfl
  refine ⟨⟨fun e he => ?_, fun g b held => ?_, fun i c stands => ?_, fun g b held => ?_, fun g b i held within => ?_⟩,
    fun tag c stands => (k.tied tag c stands).relied h, fun i c tag stands => ?_, fun g b tag held probe => ?_⟩
  · rw [h.prefixes] at he
    exact h.plans _ (k.prefixes e he)
  · obtain ⟨a, before, config, _⟩ := h.group_back held
    obtain ⟨carrier, cls⟩ := k.names g a before
    rw [config]
    exact ⟨h.accounts _ carrier, h.tariffs _ cls⟩
  · rw [circuit] at stands
    obtain ⟨a, before, within⟩ := k.owned i c stands
    obtain ⟨b, after, config, _⟩ := h.group before
    exact ⟨b, after, by rw [config]; exact within⟩
  · obtain ⟨a, before, _, count, _⟩ := h.group_back held
    rw [count, idle]
    exact k.idle g a before
  · obtain ⟨a, before, config, _⟩ := h.group_back held
    rw [config] at within
    rw [circuit]
    exact k.owns g a i before within
  · rw [circuit] at stands
    exact k.busy i c tag stands
  · obtain ⟨a, before, _, _, sameProbe, service⟩ := h.group_back held
    rw [sameProbe] at probe
    obtain ⟨call, trial⟩ := k.probes g a tag before probe
    rcases service with none | same
    · rw [probe] at none; cases none
    · exact ⟨call, by rw [same]; exact trial⟩

/-- The laws of a state hold of every state with the same records. -/
theorem Tied.of_same {s t : State} {calls : Nat → Option Call} (k : Tied s calls) (rsl : t.rsl = s.rsl) (tgm : t.tgm = s.tgm)
    (chu : t.chu = s.chu) : Tied t calls :=
  Tied.relied (s := { s with ctb := t.ctb }) (.of_same rsl tgm chu rfl)
    ⟨⟨k.prefixes, k.names, k.owned, k.idle, k.owns⟩,
      fun tag c held => ⟨(k.tied tag c held).1, (k.tied tag c held).2, (k.tied tag c held).3, (k.tied tag c held).4,
        (k.tied tag c held).5, (k.tied tag c held).6⟩, k.busy, k.probes⟩

/-- Gentle writes keep the laws between the records. -/
theorem recordLaws_gentles {s t : State} (h : Gentles s t) (laws : RecordLaws s) : RecordLaws t := by
  rw [recordLaws_iff] at laws ⊢
  have relied := relied_gentles h
  have calls : t.call? = s.call? := by funext tag; rw [State.call?, State.call?, relied.calls]
  exact ⟨canonical_kept.writes h.writes laws.1, by rw [calls]; exact laws.2.relied relied⟩

end Sys2Proof.Machine
end

section
/-! PROOFS. Edits that the laws between the records are held against: one circuit with its group's idle count, one group's restoral
fields and probe, and the records that the laws name. -/

namespace Sys2Proof.Machine

/-! ### Counting the IDLE circuits -/

/-- The records that a test picks, counted after a write. -/
theorem length_filter_put {α : Type} {t : Table α} (wf : t.wf = true) {k : Nat} {old : α} (held : t.get? k = some old) (new : α)
    (p : Nat × α → Bool) :
    ((t.put k new).filter p).length + (p (k, old)).toNat = (t.filter p).length + (p (k, new)).toNat := by
  induction t with
  | nil => cases held
  | cons e t ih =>
    obtain ⟨above, tail⟩ := (Table.wf_cons e.1 e.2 t).mp wf
    rw [Table.get?_cons] at held
    by_cases here : e.1 = k
    · obtain ⟨k', v⟩ := e
      subst here
      rw [if_pos rfl] at held
      cases held
      rw [Table.put, if_neg (Nat.lt_irrefl _), if_pos rfl]
      cases old : p (k', v) <;> cases now : p (k', new) <;> simp [old, now]
    · rw [if_neg here] at held
      have later := above _ (Table.mem_of_get? t held)
      have put : Table.put (e :: t) k new = e :: Table.put t k new := by
        obtain ⟨k', v⟩ := e
        rw [Table.put, if_neg (Nat.lt_asymm later), if_neg (Ne.symm here)]
      rw [put]
      have rest := ih tail held
      cases picked : p e <;> simp only [List.filter_cons, picked, if_true, Bool.false_eq_true, if_false, List.length_cons] <;>
        omega

/-- Whether a circuit is one of a group's in IDLE, as it counts (R18). -/
def Circuit.idles (c : Circuit) (g : Nat) : Nat := (decide (c.owner = g) && c.state.isIdle).toNat

theorem idleCircuitCount_put {s t : State} (wf : s.tgm.circuits.wf = true) {i : Nat} {old new : Circuit}
    (stands : s.circuit? i = some old) (written : t.tgm.circuits = s.tgm.circuits.put i new) (g : Nat) :
    t.idleCircuitCount g + old.idles g = s.idleCircuitCount g + new.idles g := by
  rw [State.idleCircuitCount, State.countCircuits, written]
  exact length_filter_put wf stands new fun e => decide (e.2.owner = g) && e.2.state.isIdle

/-! ### The calls without one, and with one more -/

/-- The calls without the one of a tag. -/
def dropCall (calls : Nat → Option Call) (tag : Nat) (other : Nat) : Option Call := if other = tag then none else calls other

/-- The calls with one at a tag. -/
def addCall (calls : Nat → Option Call) (tag : Nat) (call : Call) (other : Nat) : Option Call :=
  if other = tag then some call else calls other

theorem dropCall_ne {calls : Nat → Option Call} {tag other : Nat} (h : other ≠ tag) : dropCall calls tag other = calls other :=
  if_neg h

@[simp] theorem dropCall_self (calls : Nat → Option Call) (tag : Nat) : dropCall calls tag tag = none := if_pos rfl

theorem addCall_ne {calls : Nat → Option Call} {tag other : Nat} {call : Call} (h : other ≠ tag) :
    addCall calls tag call other = calls other := if_neg h

@[simp] theorem addCall_self (calls : Nat → Option Call) (tag : Nat) (call : Call) : addCall calls tag call tag = some call :=
  if_pos rfl

/-! ### An edit of one circuit -/

/-- One circuit is written, with the idle count of its group. -/
structure CircuitEdit (s t : State) (i : Nat) (old new : Circuit) (before after : Group) : Prop where
  rsl : t.rsl = s.rsl
  chu : t.chu = s.chu
  circuits : t.tgm.circuits = s.tgm.circuits.put i new
  stands : s.circuit? i = some old
  owner : new.owner = old.owner
  held : s.group? old.owner = some before
  group : t.group? old.owner = some after
  others : ∀ h, h ≠ old.owner → t.group? h = s.group? h
  config : after.config = before.config
  idle : after.idleCount + old.idles old.owner = before.idleCount + new.idles old.owner

namespace CircuitEdit
variable {s t : State} {i : Nat} {old new : Circuit} {before after : Group}

theorem circuit_self (e : CircuitEdit s t i old new before after) : t.circuit? i = some new := by
  rw [State.circuit?, e.circuits, Table.get?_put_self]

theorem circuit_ne (e : CircuitEdit s t i old new before after) {j : Nat} (h : j ≠ i) : t.circuit? j = s.circuit? j := by
  rw [State.circuit?, e.circuits, Table.get?_put_ne _ _ h]
  rfl

theorem plan (e : CircuitEdit s t i old new before after) (p : Nat) : t.plan? p = s.plan? p := by
  rw [State.plan?, e.rsl]; rfl

theorem account (e : CircuitEdit s t i old new before after) (k : Nat) : t.account? k = s.account? k := by
  rw [State.account?, e.chu]; rfl

theorem tariff (e : CircuitEdit s t i old new before after) (c : Nat) : t.tariff? c = s.tariff? c := by
  rw [State.tariff?, e.chu]; rfl

/-- Every group stands on both sides with its configuration. -/
theorem group_forth (e : CircuitEdit s t i old new before after) {g : Nat} {a : Group} (held : s.group? g = some a) :
    ∃ b, t.group? g = some b ∧ b.config = a.config := by
  by_cases own : g = old.owner
  · subst own
    rw [e.held] at held
    cases held
    exact ⟨after, e.group, e.config⟩
  · exact ⟨a, by rw [e.others g own]; exact held, rfl⟩

theorem group_back (e : CircuitEdit s t i old new before after) {g : Nat} {b : Group} (held : t.group? g = some b) :
    ∃ a, s.group? g = some a ∧ b.config = a.config := by
  by_cases own : g = old.owner
  · subst own
    rw [e.group] at held
    cases held
    exact ⟨before, e.held, e.config⟩
  · exact ⟨b, by rw [← e.others g own]; exact held, rfl⟩

/-- The circuit keeps its owner, and the idle count follows it. -/
theorem framed (e : CircuitEdit s t i old new before after) (wf : s.tgm.circuits.wf = true) (k : Framed s) : Framed t := by
  refine ⟨fun d hd => ?_, fun g b held => ?_, fun j c stands => ?_, fun g b held => ?_, fun g b j held within => ?_⟩
  · rw [e.rsl] at hd
    rw [e.plan]
    exact k.prefixes d hd
  · obtain ⟨a, stood, config⟩ := e.group_back held
    rw [config, e.account, e.tariff]
    exact k.names g a stood
  · have owned : ∃ grp, s.group? c.owner = some grp ∧ grp.config.inRange j = true := by
      by_cases here : j = i
      · subst here
        rw [e.circuit_self] at stands
        cases stands
        rw [e.owner]
        exact k.owned j old e.stands
      · rw [e.circuit_ne here] at stands
        exact k.owned j c stands
    obtain ⟨a, stood, within⟩ := owned
    obtain ⟨b, stands, config⟩ := e.group_forth stood
    exact ⟨b, stands, by rw [config]; exact within⟩
  · have count := idleCircuitCount_put wf e.stands e.circuits g
    by_cases own : g = old.owner
    · subst own
      rw [e.group] at held
      cases held
      have := k.idle _ before e.held
      have := e.idle
      omega
    · rw [e.others g own] at held
      have := k.idle g b held
      have apart : ∀ c : Circuit, c.owner = old.owner → c.idles g = 0 := by
        intro c owner
        have other : ¬ c.owner = g := fun same => own (same.symm.trans owner)
        simp [Circuit.idles, other]
      have := apart old rfl
      have := apart new e.owner
      omega
  · obtain ⟨a, stood, config⟩ := e.group_back held
    rw [config] at within
    obtain ⟨c, stands, owner⟩ := k.owns g a j stood within
    by_cases here : j = i
    · subst here
      rw [e.stands] at stands
      cases stands
      exact ⟨new, e.circuit_self, e.owner.trans owner⟩
    · exact ⟨c, by rw [e.circuit_ne here]; exact stands, owner⟩

/-- A call of another circuit relies on what the edit leaves, when its group keeps its probe. -/
theorem callTied (e : CircuitEdit s t i old new before after) {tag : Nat} {c : Call}
    (probe : before.probe = some tag → after.probe = some tag) (k : CallTied s tag c) (other : c.circuit ≠ i) :
    CallTied t tag c := by
  obtain ⟨live, timers, plan, incoming, ⟨grp, held, cls, marked⟩, circ, stands, owner, state⟩ := k
  refine ⟨live, timers, by rw [e.plan]; exact plan, by rw [e.account]; exact incoming, ?_, circ,
    by rw [e.circuit_ne other]; exact stands, owner, state⟩
  by_cases own : c.group = old.owner
  · rw [own, e.held] at held
    cases held
    exact ⟨after, by rw [own]; exact e.group, by rw [e.config]; exact cls, fun flag => probe (marked flag)⟩
  · exact ⟨grp, by rw [e.others _ own]; exact held, cls, marked⟩

/-- A change that makes no circuit BUSY and none free of a call. -/
theorem tied (e : CircuitEdit s t i old new before after) (wf : s.tgm.circuits.wf = true) {calls : Nat → Option Call}
    (state : ∀ tag, new.state = .busy tag ↔ old.state = .busy tag) (probe : after.probe = before.probe)
    (service : after.service = before.service) (k : Tied s calls) : Tied t calls := by
  refine ⟨e.framed wf k.toFramed, fun tag c held => ?_, fun j c tag stands busy => ?_, fun g b tag held named => ?_⟩
  · have before := k.tied tag c held
    by_cases here : c.circuit = i
    · obtain ⟨live, timers, plan, incoming, ⟨grp, stood, cls, marked⟩, circ, stands, owner, busy⟩ := before
      rw [here, e.stands] at stands
      cases stands
      rw [← owner, e.held] at stood
      cases stood
      exact ⟨live, timers, by rw [e.plan]; exact plan, by rw [e.account]; exact incoming,
        ⟨after, by rw [← owner]; exact e.group, by rw [e.config]; exact cls, fun flag => by rw [probe]; exact marked flag⟩,
        new, by rw [here]; exact e.circuit_self, e.owner.trans owner, (state tag).mpr busy⟩
    · exact e.callTied (fun named => by rw [probe]; exact named) before here
  · by_cases here : j = i
    · subst here
      rw [e.circuit_self] at stands
      cases stands
      exact k.busy j old tag e.stands ((state tag).mp busy)
    · rw [e.circuit_ne here] at stands
      exact k.busy j c tag stands busy
  · by_cases own : g = old.owner
    · subst own
      rw [e.group] at held
      cases held
      rw [probe] at named
      rw [service]
      exact k.probes _ before tag e.held named
    · rw [e.others g own] at held
      exact k.probes g b tag held named

/-- A BUSY circuit is released: the call whose tag it carried, which is no probe, stands no more among the calls. -/
theorem released (e : CircuitEdit s t i old new before after) (wf : s.tgm.circuits.wf = true) {calls : Nat → Option Call}
    {tag : Nat} {call : Call} (named : old.state = .busy tag) (free : ∀ other, new.state ≠ .busy other)
    (probe : after.probe = before.probe) (service : after.service = before.service) (live : calls tag = some call)
    (plain : call.probe = false) (k : Tied s calls) : Tied t (dropCall calls tag) := by
  refine ⟨e.framed wf k.toFramed, fun other c held => ?_, fun j c other stands busy => ?_, fun g b other held marked => ?_⟩
  · by_cases same : other = tag
    · rw [same, dropCall_self] at held; cases held
    · rw [dropCall_ne same] at held
      have tied := k.tied other c held
      refine e.callTied (fun named => by rw [probe]; exact named) tied fun here => ?_
      obtain ⟨circ, stands, _, busy⟩ := tied.circuit
      rw [here, e.stands] at stands
      cases stands
      rw [named] at busy
      cases busy
      exact same rfl
  · by_cases here : j = i
    · subst here
      rw [e.circuit_self] at stands
      cases stands
      exact absurd busy (free other)
    · rw [e.circuit_ne here] at stands
      obtain ⟨d, held, circuit⟩ := k.busy j c other stands busy
      refine ⟨d, ?_, circuit⟩
      rw [dropCall_ne fun same => ?_]
      · exact held
      · subst same
        obtain ⟨circ, there, _, carried⟩ := (k.tied _ d held).circuit
        obtain ⟨d', held', circuit'⟩ := k.busy i old other e.stands named
        rw [held] at held'
        cases held'
        exact here (circuit.symm.trans circuit')
  · have marked' : ∃ a, s.group? g = some a ∧ a.probe = some other ∧ a.service = b.service := by
      by_cases own : g = old.owner
      · subst own
        rw [e.group] at held
        cases held
        exact ⟨before, e.held, probe.symm.trans marked, service.symm⟩
      · rw [e.others g own] at held
        exact ⟨b, held, marked, rfl⟩
    obtain ⟨a, stood, named, same⟩ := marked'
    obtain ⟨⟨c, held, group, flag⟩, trial⟩ := k.probes g a other stood named
    refine ⟨⟨c, ?_, group, flag⟩, by rw [← same]; exact trial⟩
    rw [dropCall_ne fun same => ?_]
    · exact held
    · subst same
      rw [live] at held
      cases held
      rw [plain] at flag
      cases flag

/-- An IDLE circuit is seized for a call that was not among the calls, as its group's probe or not. -/
theorem seized (e : CircuitEdit s t i old new before after) (wf : s.tgm.circuits.wf = true) {calls : Nat → Option Call}
    {tag : Nat} {call : Call} {asProbe : Bool} (idle : old.state = .idle) (named : new.state = .busy tag)
    (probe : after.probe = if asProbe then some tag else before.probe) (service : after.service = before.service)
    (trial : asProbe = true → before.probe = none ∧ (before.service = .reopenFirst ∨ before.service = .reopenSecond))
    (fresh : calls tag = none) (live : tag ≠ 0) (timers : call.timersAgree) (plan : (s.plan? call.plan).isSome = true)
    (incoming : (s.account? call.incoming).isSome = true) (circuit : call.circuit = i) (group : call.group = old.owner)
    (cls : before.config.tariffClass = call.tariffClass) (flag : call.probe = asProbe) (k : Tied s calls) :
    Tied t (addCall calls tag call) := by
  have kept : ∀ other, before.probe = some other → after.probe = some other := by
    intro other held
    cases asProbe with
    | false => exact probe.trans held
    | true =>
      rw [(trial rfl).1] at held
      cases held
  refine ⟨e.framed wf k.toFramed, fun other c held => ?_, fun j c other stands busy => ?_, fun g b other held marked => ?_⟩
  · by_cases same : other = tag
    · subst same
      rw [addCall_self] at held
      cases held
      refine ⟨live, timers, by rw [e.plan]; exact plan, by rw [e.account]; exact incoming,
        ⟨after, by rw [group]; exact e.group, by rw [e.config]; exact cls, fun marked => ?_⟩, new,
        by rw [circuit]; exact e.circuit_self, e.owner.trans group.symm, named⟩
      rw [probe, ← flag, marked, if_pos rfl]
    · rw [addCall_ne same] at held
      have tied := k.tied other c held
      refine e.callTied (kept other) tied fun here => ?_
      obtain ⟨circ, stands, _, busy⟩ := tied.circuit
      rw [here, e.stands] at stands
      cases stands
      rw [idle] at busy
      cases busy
  · by_cases here : j = i
    · subst here
      rw [e.circuit_self] at stands
      cases stands
      rw [named] at busy
      cases busy
      exact ⟨call, addCall_self _ _ _, circuit⟩
    · rw [e.circuit_ne here] at stands
      obtain ⟨d, held, circuit⟩ := k.busy j c other stands busy
      refine ⟨d, ?_, circuit⟩
      rw [addCall_ne fun same => ?_]
      · exact held
      · rw [same, fresh] at held
        cases held
  · have old_probe : ∀ g a, s.group? g = some a → a.probe = some other →
        ProbeTied (addCall calls tag call) g other a.service := by
      intro g a stood named
      obtain ⟨⟨c, held, group, flag⟩, trial⟩ := k.probes g a other stood named
      refine ⟨⟨c, ?_, group, flag⟩, trial⟩
      rw [addCall_ne fun same => ?_]
      · exact held
      · rw [same, fresh] at held
        cases held
    by_cases own : g = old.owner
    · subst own
      rw [e.group] at held
      cases held
      rw [service]
      rw [probe] at marked
      cases asProbe with
      | false => exact old_probe _ before e.held marked
      | true =>
        cases marked
        exact ⟨⟨call, addCall_self _ _ _, group, flag⟩, (trial rfl).2⟩
    · rw [e.others g own] at held
      exact old_probe g b held marked

end CircuitEdit

/-! ### An edit of one group's restoral fields -/

/-- The group at an index changes but for its configuration and its idle count. -/
structure GroupEdit (s t : State) (g : Nat) (before after : Group) : Prop where
  rsl : t.rsl = s.rsl
  chu : t.chu = s.chu
  circuits : t.tgm.circuits = s.tgm.circuits
  held : s.group? g = some before
  group : t.group? g = some after
  others : ∀ h, h ≠ g → t.group? h = s.group? h
  config : after.config = before.config
  idle : after.idleCount = before.idleCount

namespace GroupEdit
variable {s t : State} {g : Nat} {before after : Group}

theorem put (s : State) {g : Nat} {before after : Group} (held : s.group? g = some before)
    (config : after.config = before.config) (idle : after.idleCount = before.idleCount) :
    GroupEdit s (s.putGroup g after) g before after :=
  ⟨rfl, rfl, rfl, held, State.group_putGroup_self _ _ _, fun h => State.group_putGroup_ne _ _ _ h, config, idle⟩

theorem circuit (e : GroupEdit s t g before after) (i : Nat) : t.circuit? i = s.circuit? i := by
  rw [State.circuit?, e.circuits]; rfl

/-- Every group stands on both sides; all but the one edited as it was. -/
theorem group_back (e : GroupEdit s t g before after) {h : Nat} {b : Group} (held : t.group? h = some b) :
    ∃ a, s.group? h = some a ∧ b.config = a.config ∧ b.idleCount = a.idleCount ∧ (h ≠ g → b = a) ∧
      (h = g → a = before ∧ b = after) := by
  by_cases own : h = g
  · subst own
    rw [e.group] at held
    cases held
    exact ⟨before, e.held, e.config, e.idle, fun ne => absurd rfl ne, fun _ => ⟨rfl, rfl⟩⟩
  · rw [e.others h own] at held
    exact ⟨b, held, rfl, rfl, fun _ => rfl, fun same => absurd same own⟩

theorem group_forth (e : GroupEdit s t g before after) {h : Nat} {a : Group} (held : s.group? h = some a) :
    ∃ b, t.group? h = some b ∧ b.config = a.config ∧ (h ≠ g → b = a) ∧ (h = g → a = before ∧ b = after) := by
  by_cases own : h = g
  · subst own
    rw [e.held] at held
    cases held
    exact ⟨after, e.group, e.config, fun ne => absurd rfl ne, fun _ => ⟨rfl, rfl⟩⟩
  · exact ⟨a, by rw [e.others h own]; exact held, rfl, fun _ => rfl, fun same => absurd same own⟩

theorem framed (e : GroupEdit s t g before after) (k : Framed s) : Framed t := by
  refine ⟨fun d hd => ?_, fun h b held => ?_, fun i c stands => ?_, fun h b held => ?_, fun h b i held within => ?_⟩
  · rw [e.rsl] at hd
    rw [State.plan?, e.rsl]
    exact k.prefixes d hd
  · obtain ⟨a, stood, config, _⟩ := e.group_back held
    rw [config, State.account?, State.tariff?, e.chu]
    exact k.names h a stood
  · rw [e.circuit] at stands
    obtain ⟨a, stood, within⟩ := k.owned i c stands
    obtain ⟨b, stands, config, _⟩ := e.group_forth stood
    exact ⟨b, stands, by rw [config]; exact within⟩
  · obtain ⟨a, stood, _, idle, _⟩ := e.group_back held
    rw [idle, k.idle h a stood, State.idleCircuitCount, State.idleCircuitCount, State.countCircuits, State.countCircuits,
      e.circuits]
  · obtain ⟨a, stood, config, _⟩ := e.group_back held
    rw [config] at within
    rw [e.circuit]
    exact k.owns h a i stood within

/-- The calls stand with every field but the probe flag, which is cleared at most where the group's probe is. -/
theorem tied (e : GroupEdit s t g before after) {calls calls' : Nat → Option Call}
    (clears : ∀ tag, calls' tag = calls tag ∨
      before.probe = some tag ∧ after.probe = none ∧ calls' tag = (calls tag).map fun c => { c with probe := false })
    (probe : after.probe = before.probe ∨
      after.probe = none ∧ ∀ tag, before.probe = some tag → calls' tag = (calls tag).map fun c => { c with probe := false })
    (service : ∀ tag, after.probe = some tag → before.service = .reopenFirst ∨ before.service = .reopenSecond →
      after.service = .reopenFirst ∨ after.service = .reopenSecond) (k : Tied s calls) : Tied t calls' := by
  have same : ∀ {tag c'}, calls' tag = some c' →
      ∃ c, calls tag = some c ∧ c' = { c with probe := c'.probe } ∧ (c'.probe = true → c.probe = true) := by
    intro tag c' held
    rcases clears tag with eq | ⟨_, _, eq⟩
    · exact ⟨c', eq ▸ held, rfl, id⟩
    · rw [eq, Option.map_eq_some_iff] at held
      obtain ⟨c, held, rfl⟩ := held
      exact ⟨c, held, rfl, nofun⟩
  refine ⟨e.framed k.toFramed, fun tag c' held => ?_, fun i c tag stands busy => ?_, fun h b tag held named => ?_⟩
  · obtain ⟨c, stood, eq, flag⟩ := same held
    obtain ⟨live, timers, plan, incoming, ⟨grp, grpHeld, cls, marked⟩, circ, stands, owner, state⟩ := k.tied tag c stood
    obtain ⟨b, grpStands, config, other, own⟩ := e.group_forth grpHeld
    rw [eq]
    refine ⟨live, timers, ?_, ?_, ⟨b, grpStands, by rw [config]; exact cls, fun set => ?_⟩, circ, ?_, owner, state⟩
    · rw [State.plan?, e.rsl]; exact plan
    · rw [State.account?, e.chu]; exact incoming
    · have named := marked (flag set)
      by_cases at_g : c.group = g
      · obtain ⟨rfl, rfl⟩ := own at_g
        rcases probe with kept | ⟨_, cleared⟩
        · rw [kept]; exact named
        · rw [cleared tag named, stood] at held
          cases held
          cases set
      · rw [other at_g]; exact named
    · rw [e.circuit]; exact stands
  · rw [e.circuit] at stands
    obtain ⟨call, stood, circuit⟩ := k.busy i c tag stands busy
    rcases clears tag with eq | ⟨_, _, eq⟩
    · exact ⟨call, eq.trans stood, circuit⟩
    · exact ⟨{ call with probe := false }, by rw [eq, stood]; rfl, circuit⟩
  · have stays : ∀ {a : Group}, s.group? h = some a → a.probe = some tag →
        (h = g → after.probe ≠ none) → ∃ c, calls' tag = some c ∧ c.group = h ∧ c.probe = true := by
      intro a stood marked keeps
      obtain ⟨⟨c, held, group, flag⟩, _⟩ := k.probes h a tag stood marked
      rcases clears tag with eq | ⟨mine, gone, _⟩
      · exact ⟨c, eq.trans held, group, flag⟩
      · obtain ⟨⟨d, held', group', _⟩, _⟩ := k.probes g before tag e.held mine
        rw [held] at held'
        cases held'
        exact absurd gone (keeps (group.symm.trans group'))
    obtain ⟨a, stood, _, _, other, own⟩ := e.group_back held
    by_cases at_g : h = g
    · obtain ⟨rfl, rfl⟩ := own at_g
      have marked : a.probe = some tag := by
        rcases probe with kept | ⟨gone, _⟩
        · exact kept.symm.trans named
        · rw [gone] at named; cases named
      refine ⟨stays stood marked fun _ gone => ?_, service tag named (k.probes h a tag stood marked).2⟩
      rw [gone] at named
      cases named
    · rw [other at_g] at named ⊢
      exact ⟨stays stood named fun same => absurd same at_g, (k.probes h a tag stood named).2⟩

end GroupEdit

end Sys2Proof.Machine
end

section
/-! PROOFS. The laws between the records hold after the requests on prefixes, groups, circuits and carriers, after the expiries of a
guard and of restoral, and after the freeing of the calls by a RESTART. -/

namespace Sys2Proof.Machine

/-- The laws between the records of a state that writes have reached. -/
theorem recordLaws_of_tied {s t : State} (laws : RecordLaws s) (h : Writes s t) {calls : Nat → Option Call}
    (tied : Tied t calls) (same : ∀ tag, t.call? tag = calls tag) : RecordLaws t := by
  have stands : t.call? = calls := funext same
  exact (recordLaws_iff t).mpr ⟨canonical_kept.writes h laws.1, by rw [stands]; exact tied⟩

theorem tied_of_recordLaws {s : State} (laws : RecordLaws s) : Tied s s.call? := ((recordLaws_iff s).mp laws).2

theorem circuits_wf {s : State} (laws : RecordLaws s) : s.tgm.circuits.wf = true := by
  obtain ⟨⟨_, _, _, circuits, _⟩, _⟩ := laws
  exact circuits

theorem groups_wf {s : State} (laws : RecordLaws s) : s.tgm.groups.wf = true := by
  obtain ⟨⟨_, _, groups, _⟩, _⟩ := laws
  exact groups

/-! ### Prefixes -/

/-- The table of codes is written with entries that name configured plans. -/
theorem Tied.setPrefixes {s : State} {calls : Nat → Option Call} (k : Tied s calls) {t : List PrefixEntry}
    (names : ∀ e ∈ t, (s.plan? e.plan).isSome = true) : Tied (s.setPrefixes t) calls := by
  refine ⟨⟨names, k.names, k.owned, k.idle, k.owns⟩, fun tag c held => ?_, k.busy, k.probes⟩
  obtain ⟨live, timers, plan, incoming, group, circuit⟩ := k.tied tag c held
  exact ⟨live, timers, plan, incoming, group, circuit⟩

theorem recordLaws_setPrefix {s : State} (laws : RecordLaws s) (body : List Byte) : RecordLaws (handleSetPrefix body s).1 := by
  have writes := writes_handleSetPrefix body s
  rw [handleSetPrefix] at writes ⊢
  split
  · exact laws
  next ds plan note read =>
    split
    · exact laws
    · split
      · exact laws
      · split
        · exact laws
        next configured =>
          split
          · exact laws
          · have tied := tied_of_recordLaws laws
            have entry := (Write.entry s { digits := ds, plan := plan, note := note }).writes
            refine recordLaws_of_tied laws entry (tied.setPrefixes fun e he => ?_) fun _ => rfl
            rcases mem_putEntry he with rfl | he
            · simpa [Option.isSome_iff_ne_none] using configured
            · exact tied.prefixes e he

theorem recordLaws_delPrefix {s : State} (laws : RecordLaws s) (body : List Byte) : RecordLaws (handleDelPrefix body s).1 := by
  rw [handleDelPrefix]
  split
  · exact laws
  next ds rest read =>
    split
    · exact laws
    · split
      · exact laws
      · have tied := tied_of_recordLaws laws
        exact recordLaws_of_tied laws (Write.eraseEntry s ds).writes
          (tied.setPrefixes fun e he => tied.prefixes e (List.mem_filter.mp he).1) fun _ => rfl

/-! ### Carriers -/

/-- An account that no group and no live call names is removed. -/
theorem Tied.eraseAccount {s : State} {calls : Nat → Option Call} (k : Tied s calls) {c : Nat}
    (groups : ∀ g grp, s.group? g = some grp → grp.config.carrier ≠ c) (froms : ∀ tag call, calls tag = some call → call.incoming ≠ c) :
    Tied (s.setAccounts (s.chu.accounts.erase c)) calls := by
  have account : ∀ j, j ≠ c → (s.setAccounts (s.chu.accounts.erase c)).account? j = s.account? j := fun j other => by
    rw [State.account_setAccounts, Table.get?_erase_ne _ other]
    rfl
  refine ⟨⟨k.prefixes, fun g grp held => ?_, k.owned, k.idle, k.owns⟩, fun tag call held => ?_, k.busy, k.probes⟩
  · have held : s.group? g = some grp := held
    rw [account _ (groups g grp held)]
    exact k.names g grp held
  · obtain ⟨live, timers, plan, incoming, group, circuit⟩ := k.tied tag call held
    exact ⟨live, timers, plan, by rw [account _ (froms tag call held)]; exact incoming, group, circuit⟩

/-- A record that no filter finds is none of the table. -/
theorem not_counted {α : Type} {t : Table α} {p : Nat × α → Prop} [DecidablePred p]
    (h : ¬ 0 < (t.filter (fun e => decide (p e))).length) {k : Nat} {v : α} (held : t.get? k = some v) : ¬ p (k, v) := by
  intro picked
  refine h (List.length_pos_of_mem (a := (k, v)) (List.mem_filter.mpr ⟨Table.mem_of_get? t held, ?_⟩))
  simpa using picked

theorem recordLaws_delCarrier {s : State} (laws : RecordLaws s) (body : List Byte) : RecordLaws (handleDelCarrier body s).1 := by
  rw [handleDelCarrier]
  refine withRecord_cases (P := fun a => RecordLaws a.1) (fun _ => laws) fun k a held => ?_
  split
  · exact laws
  next unused =>
    rw [State.carrierInUse] at unused
    split at unused
    · cases unused
    next groups =>
      split at unused
      · cases unused
      next froms =>
        refine recordLaws_of_tied laws (Write.eraseAccount s k).writes
          ((tied_of_recordLaws laws).eraseAccount (fun g grp stands => ?_) fun tag call stands => ?_) fun _ => rfl
        · exact not_counted (t := s.tgm.groups) (p := fun e => e.2.config.carrier = k) groups stands
        · exact not_counted (t := s.ctb) (p := fun e => e.2.incoming = k) froms stands

/-! ### Deleting a group -/

/-- The circuits of a group that is not in use are neither BUSY nor in GUARD. -/
theorem groupInUse_eq_false {s : State} {g : Nat} (h : ¬ s.groupInUse g = true) {i : Nat} {c : Circuit}
    (stands : s.circuit? i = some c) (owner : c.owner = g) : c.state.isBusy = false ∧ c.state.isGuard = false := by
  rw [State.groupInUse, List.any_eq_true, not_exists] at h
  have here := h (i, c)
  simp only [Table.mem_of_get? _ stands, owner, decide_true, Bool.true_and, true_and, Bool.or_eq_true, not_or,
    Bool.not_eq_true] at here
  exact here

/-- A group without a BUSY circuit has no call (R77). -/
theorem Tied.no_call {s : State} {calls : Nat → Option Call} (k : Tied s calls) {g : Nat}
    (quiet : ∀ i c, s.circuit? i = some c → c.owner = g → ∀ tag, c.state ≠ .busy tag) {tag : Nat} {call : Call}
    (held : calls tag = some call) : call.group ≠ g := by
  intro same
  obtain ⟨circ, stands, owner, state⟩ := (k.tied tag call held).circuit
  exact quiet _ circ stands (owner.trans same) tag state

/-- A group without a BUSY circuit has no probe (R102). -/
theorem Tied.no_probe {s : State} {calls : Nat → Option Call} (k : Tied s calls) {g : Nat} {grp : Group}
    (quiet : ∀ i c, s.circuit? i = some c → c.owner = g → ∀ tag, c.state ≠ .busy tag) (held : s.group? g = some grp) :
    grp.probe = none := by
  cases probe : grp.probe with
  | none => rfl
  | some tag =>
    obtain ⟨⟨c, stands, group, _⟩, _⟩ := k.probes g grp tag held probe
    exact absurd group (k.no_call quiet stands)

theorem isBusy_eq_false {c : CircuitState} (h : c.isBusy = false) (tag : Nat) : c ≠ .busy tag := by
  rintro rfl
  cases h

/-- A circuit that is no guard and not BUSY is none of a group's in use; the other groups count as before. -/
theorem idleCircuitCount_congr {s t : State} (hs : s.tgm.circuits.wf = true) (ht : t.tgm.circuits.wf = true) {g : Nat}
    (same : ∀ i c, c.owner = g → (t.circuit? i = some c ↔ s.circuit? i = some c)) :
    t.idleCircuitCount g = s.idleCircuitCount g := by
  rw [State.idleCircuitCount, State.countCircuits, State.idleCircuitCount, State.countCircuits]
  congr 1
  refine Table.ext (Table.wf_filter _ ht _) (Table.wf_filter _ hs _) fun i => ?_
  rw [Table.get?_filter _ ht, Table.get?_filter _ hs]
  ext c
  simp only [Option.filter_eq_some_iff, Bool.and_eq_true, decide_eq_true_eq]
  exact and_congr_left fun picked => same i c picked.1

theorem Tied.deleteGroup {s : State} {calls : Nat → Option Call} (groups : s.tgm.groups.wf = true)
    (circuits : s.tgm.circuits.wf = true) (k : Tied s calls) {g : Nat}
    (quiet : ∀ i c, s.circuit? i = some c → c.owner = g → ∀ tag, c.state ≠ .busy tag) :
    Tied (s.deleteGroup g) calls := by
  have circuit : ∀ i c, (s.deleteGroup g).circuit? i = some c ↔ s.circuit? i = some c ∧ c.owner ≠ g := by
    intro i c
    have filtered := Table.get?_filter s.tgm.circuits circuits (fun e => decide (e.2.owner ≠ g)) i
    have read : (s.deleteGroup g).circuit? i = Table.get? (s.tgm.circuits.filter fun e => decide (e.2.owner ≠ g)) i := rfl
    rw [read, filtered, Option.filter_eq_some_iff]
    simp [State.circuit?]
  have group : ∀ h grp, (s.deleteGroup g).group? h = some grp ↔ s.group? h = some grp ∧ h ≠ g := by
    intro h grp
    by_cases same : h = g
    · have gone : (s.deleteGroup g).group? g = none := Table.get?_erase_self _ groups g
      rw [same, gone]
      simp
    · have stands : (s.deleteGroup g).group? h = s.group? h := Table.get?_erase_ne _ same
      rw [stands]
      simp [same]
  refine ⟨⟨k.prefixes, fun h grp held => k.names h grp ((group h grp).mp held).1, fun i c stands => ?_, fun h grp held => ?_,
    fun h grp i held within => ?_⟩, fun tag c held => ?_, fun i c tag stands busy => ?_, fun h grp tag held probe => ?_⟩
  · obtain ⟨stood, other⟩ := (circuit i c).mp stands
    obtain ⟨grp, held, within⟩ := k.owned i c stood
    exact ⟨grp, (group _ _).mpr ⟨held, other⟩, within⟩
  · obtain ⟨stood, other⟩ := (group h grp).mp held
    rw [k.idle h grp stood]
    refine (idleCircuitCount_congr circuits (Table.wf_filter _ circuits _) fun i c owner => ?_).symm
    rw [circuit, owner]
    simp [other]
  · obtain ⟨stood, other⟩ := (group h grp).mp held
    obtain ⟨c, stands, owner⟩ := k.owns h grp i stood within
    exact ⟨c, (circuit i c).mpr ⟨stands, by rw [owner]; exact other⟩, owner⟩
  · have apart := k.no_call quiet held
    obtain ⟨live, timers, plan, incoming, ⟨grp, stood, cls, flag⟩, circ, stands, owner, state⟩ := k.tied tag c held
    exact ⟨live, timers, plan, incoming, ⟨grp, (group _ _).mpr ⟨stood, apart⟩, cls, flag⟩, circ,
      (circuit _ _).mpr ⟨stands, by rw [owner]; exact apart⟩, owner, state⟩
  · exact k.busy i c tag ((circuit i c).mp stands).1 busy
  · exact k.probes h grp tag ((group h grp).mp held).1 probe

theorem recordLaws_delGroup {s : State} (laws : RecordLaws s) (body : List Byte) : RecordLaws (handleDelGroup body s).1 := by
  rw [handleDelGroup]
  refine withRecord_cases (P := fun a => RecordLaws a.1) (fun _ => laws) fun g grp held => ?_
  split
  · exact laws
  next unused =>
    exact recordLaws_of_tied laws (writes_deleteGroup s g)
      ((tied_of_recordLaws laws).deleteGroup (groups_wf laws) (circuits_wf laws) fun i c stands owner =>
        isBusy_eq_false (groupInUse_eq_false unused stands owner).1) fun _ => rfl

/-! ### Restoral -/

/-- The probe of a group is released: the call lives on as an ordinary call (R34, R102, R108). -/
theorem Tied.releaseProbe {s : State} (k : Tied s s.call?) {g : Nat} {grp after : Group} (held : s.group? g = some grp)
    (config : after.config = grp.config) (idle : after.idleCount = grp.idleCount) (probe : after.probe = none) :
    Tied ((s.putGroup g after).releaseProbeOf grp) ((s.putGroup g after).releaseProbeOf grp).call? := by
  rw [State.releaseProbeOf]
  cases named : grp.probe with
  | none =>
    exact (GroupEdit.put s held config idle).tied (fun _ => .inl rfl) (.inl (probe.trans named.symm))
      (fun tag marked => by rw [probe] at marked; cases marked) k
  | some tag =>
    have call : ∀ other, ((s.putGroup g after).modifyCall tag fun c => { c with probe := false }).call? other =
        (s.call? other).map fun c => if other = tag then { c with probe := false } else c := fun other => by
      rw [State.call_modifyCall]
      rfl
    refine (GroupEdit.tied (calls := s.call?) (GroupEdit.put s held config idle) (fun other => ?_) (.inr ⟨probe, fun other marked => ?_⟩)
      (fun other marked => by rw [probe] at marked; cases marked) k).of_same
      (State.modifyCall_rsl _ _ _) (State.modifyCall_tgm _ _ _) (State.modifyCall_chu _ _ _)
    · by_cases same : other = tag
      · subst same
        exact .inr ⟨named, probe, by simp [call]⟩
      · exact .inl (by simp [call, same])
    · rw [named] at marked
      cases marked
      simp [call]

theorem recordLaws_service {s : State} (laws : RecordLaws s) (body : List Byte) : RecordLaws (handleService body s).1 := by
  have writes := writes_handleService body s
  rw [handleService] at writes ⊢
  split
  · exact laws
  next g target read =>
    split
    · exact laws
    · split
      · exact laws
      next grp held =>
        split
        · exact laws
        next t _ =>
          refine recordLaws_of_tied laws ?_ ((tied_of_recordLaws laws).releaseProbe held rfl rfl rfl) fun _ => rfl
          exact (writes_putGroup_same s g held (grp.serviced t) rfl rfl rfl rfl).trans (writes_releaseProbeOf _ grp)

/-- A group keeps its probe, and with a probe stays under trial. -/
theorem Tied.moveTrial {s : State} {calls : Nat → Option Call} (k : Tied s calls) {g : Nat} {grp after : Group}
    (held : s.group? g = some grp) (config : after.config = grp.config) (idle : after.idleCount = grp.idleCount)
    (probe : after.probe = grp.probe) (service : ∀ tag, grp.probe = some tag →
      grp.service = .reopenFirst ∨ grp.service = .reopenSecond → after.service = .reopenFirst ∨ after.service = .reopenSecond) :
    Tied (s.putGroup g after) calls :=
  (GroupEdit.put s held config idle).tied (fun _ => .inl rfl) (.inl probe) (fun tag marked => service tag (probe ▸ marked)) k

theorem recordLaws_tsExpiry {s t : State} {g : Nat} (laws : RecordLaws s) (h : exec (.tsExpiry g) s = .next t) :
    RecordLaws t := by
  have writes := writes_tsExpiry h
  have h : execTsExpiry g s = .next t := h
  rw [execTsExpiry] at h
  split at h
  · cases h; exact laws
  next grp held =>
    split at h <;> cases h
    · exact recordLaws_of_tied laws writes
        ((tied_of_recordLaws laws).moveTrial held rfl rfl rfl fun _ _ _ => .inl rfl) fun _ => rfl
    · exact laws

theorem recordLaws_tqExpiry {s t : State} {g : Nat} (laws : RecordLaws s) (h : exec (.tqExpiry g) s = .next t) :
    RecordLaws t := by
  have writes := writes_tqExpiry h
  have h : execTqExpiry g s = .next t := h
  rw [execTqExpiry] at h
  split at h
  · cases h; exact laws
  next grp held =>
    split at h <;> cases h
    · exact recordLaws_of_tied laws writes
        ((tied_of_recordLaws laws).moveTrial held rfl rfl rfl fun _ _ _ => .inr rfl) fun _ => rfl
    · exact laws

theorem recordLaws_twExpiry {s t : State} {g : Nat} (laws : RecordLaws s) (h : exec (.twExpiry g) s = .next t) :
    RecordLaws t := by
  have writes := writes_twExpiry h
  have h : execTwExpiry g s = .next t := h
  rw [execTwExpiry] at h
  split at h
  · cases h; exact laws
  next grp held =>
    split at h <;> cases h
    · have released := (tied_of_recordLaws laws).releaseProbe (after := grp.lapsed s.now) held rfl rfl rfl
      exact recordLaws_of_tied laws writes (released.of_same rfl rfl rfl) fun _ => rfl
    · exact laws

/-! ### Circuits -/

/-- The owner of a circuit is a configured group. -/
theorem Framed.owner {s : State} (k : Framed s) {i : Nat} {c : Circuit} (stands : s.circuit? i = some c) :
    ∃ grp, s.group? c.owner = some grp := by
  obtain ⟨grp, held, _⟩ := k.owned i c stands
  exact ⟨grp, held⟩

/-- A circuit is written and its group not. -/
theorem CircuitEdit.put {s : State} {i : Nat} {old new : Circuit} {grp : Group} (stands : s.circuit? i = some old)
    (held : s.group? old.owner = some grp) (owner : new.owner = old.owner)
    (idle : old.idles old.owner = new.idles old.owner) : CircuitEdit s (s.putCircuit i new) i old new grp grp :=
  ⟨rfl, rfl, rfl, stands, owner, held, held, fun _ _ => rfl, rfl, by rw [idle]⟩

/-- A circuit is written, and its group changes. -/
theorem CircuitEdit.modify {s : State} {i : Nat} {old new : Circuit} {grp : Group} (stands : s.circuit? i = some old)
    (held : s.group? old.owner = some grp) (owner : new.owner = old.owner) {f : Group → Group}
    (config : (f grp).config = grp.config) (idle : (f grp).idleCount + old.idles old.owner = grp.idleCount + new.idles old.owner) :
    CircuitEdit s ((s.putCircuit i new).modifyGroup old.owner f) i old new grp (f grp) := by
  have there : (s.putCircuit i new).group? old.owner = some grp := held
  rw [State.modifyGroup_of_group there]
  exact ⟨rfl, rfl, rfl, stands, owner, held, State.group_putGroup_self _ _ _,
    fun h other => by rw [State.group_putGroup_ne _ _ _ _ other]; rfl, config, idle⟩

/-- The number of its IDLE circuits is above 0 while one of them stands. -/
theorem idleCircuitCount_pos {s : State} {i g : Nat} {c : Circuit} (stands : s.circuit? i = some c) (owner : c.owner = g)
    (idle : c.state = .idle) : 0 < s.idleCircuitCount g := by
  refine List.length_pos_of_mem (a := (i, c)) (List.mem_filter.mpr ⟨Table.mem_of_get? _ stands, ?_⟩)
  simp [owner, idle, CircuitState.isIdle]

theorem gentles_raiseTest (s : State) (g : Nat) : Gentles s (s.raiseTest g) := by
  rw [State.raiseTest]
  split
  · exact .refl
  next grp held =>
    split
    · exact .refl
    · refine .trans (Gentle.gentles ?_) (Gentle.offer _ _).gentles
      refine .group s g grp _ held ⟨rfl, rfl, rfl, .inr rfl⟩ fun h => ?_
      obtain ⟨_, level, rest⟩ := h
      exact ⟨Nat.le_max_right _ _, Nat.max_le.mpr ⟨level, grp.config.raiseLevel_le_three _⟩, rest⟩

/-- An edit of a circuit, and then gentle writes, that finish no call. -/
theorem recordLaws_of_edit {s u t : State} {i : Nat} {old new : Circuit} {before after : Group} (laws : RecordLaws s)
    (h : Writes s t) (e : CircuitEdit s u i old new before after) (state : ∀ tag, new.state = .busy tag ↔ old.state = .busy tag)
    (probe : after.probe = before.probe) (service : after.service = before.service) (ctb : u.ctb = s.ctb)
    (g : Gentles u t) : RecordLaws t := by
  have relied := relied_gentles g
  refine recordLaws_of_tied laws h
    ((e.tied (circuits_wf laws) state probe service (tied_of_recordLaws laws)).relied relied) fun tag => ?_
  rw [State.call?, relied.calls, ctb]
  rfl

/-! What BLOCK and UNBLOCK do, state by state (R31, R32). -/

theorem blockCircuit_of_idle {circ : Circuit} (h : circ.state = .idle) (s : State) (i : Nat) :
    s.blockCircuit i circ =
      ((s.putCircuit i { circ with state := .blocked }).modifyGroup circ.owner Group.loseIdle).raiseTest circ.owner := by
  rw [State.blockCircuit]
  split <;> simp_all

theorem blockCircuit_of_taken {circ : Circuit} (h : circ.state.isBusy = true ∨ circ.state.isGuard = true) (s : State) (i : Nat) :
    s.blockCircuit i circ = s.putCircuit i { circ with blockPending := true } := by
  rw [State.blockCircuit]
  split <;> simp_all [CircuitState.isBusy, CircuitState.isGuard]

theorem blockCircuit_of_blocked {circ : Circuit} (h : circ.state = .blocked) (s : State) (i : Nat) :
    s.blockCircuit i circ = s := by
  rw [State.blockCircuit]
  split <;> simp_all

theorem unblockCircuit_of_blocked {circ : Circuit} (h : circ.state = .blocked) (s : State) (i : Nat) :
    s.unblockCircuit i circ =
      (s.putCircuit i { circ with state := .idle, blockPending := false }).modifyGroup circ.owner Group.gainIdle := by
  rw [State.unblockCircuit]
  split <;> simp_all

theorem unblockCircuit_of_other {circ : Circuit} (h : circ.state ≠ .blocked) (s : State) (i : Nat) :
    s.unblockCircuit i circ = s.putCircuit i { circ with blockPending := false } := by
  rw [State.unblockCircuit]
  split <;> simp_all

/-- A circuit is IDLE, BUSY or in GUARD, or BLOCKED. -/
theorem circuitState_cases (c : CircuitState) : c = .idle ∨ (c.isBusy = true ∨ c.isGuard = true) ∨ c = .blocked := by
  cases c <;> simp [CircuitState.isBusy, CircuitState.isGuard]

/-- An IDLE circuit leaves IDLE, and its group's idle count falls. -/
theorem CircuitEdit.loseIdle {s : State} {i : Nat} {old : Circuit} {grp : Group} (k : Framed s)
    (stands : s.circuit? i = some old) (held : s.group? old.owner = some grp) (idle : old.state = .idle) {state : CircuitState}
    (taken : state.isIdle = false) :
    CircuitEdit s ((s.putCircuit i { old with state := state }).modifyGroup old.owner Group.loseIdle) i old
      { old with state := state } grp grp.loseIdle := by
  refine CircuitEdit.modify (new := { old with state := state }) (f := Group.loseIdle) stands held rfl rfl ?_
  have positive := idleCircuitCount_pos stands rfl idle
  rw [← k.idle _ _ held] at positive
  simp only [Group.loseIdle, Circuit.idles, idle, taken, decide_true, Bool.and_false, Bool.toNat_false]
  exact Nat.sub_add_cancel positive

/-- A circuit enters IDLE, and its group's idle count rises. -/
theorem CircuitEdit.gainIdle {s : State} {i : Nat} {old : Circuit} {grp : Group} (stands : s.circuit? i = some old)
    (held : s.group? old.owner = some grp) (taken : old.state.isIdle = false) (pending : Bool) :
    CircuitEdit s ((s.putCircuit i { old with state := .idle, blockPending := pending }).modifyGroup old.owner Group.gainIdle) i
      old { old with state := .idle, blockPending := pending } grp grp.gainIdle := by
  refine CircuitEdit.modify (new := { old with state := .idle, blockPending := pending }) (f := Group.gainIdle) stands held
    rfl rfl ?_
  simp only [Group.gainIdle, Circuit.idles, taken, decide_true, Bool.and_false, Bool.toNat_false]
  rfl

theorem recordLaws_block {s : State} (laws : RecordLaws s) (body : List Byte) : RecordLaws (handleBlock body s).1 := by
  rw [handleBlock]
  refine withRecord_cases (P := fun a => RecordLaws a.1) (fun _ => laws) fun i circ stands => ?_
  have writes := writes_blockCircuit s i circ
  have tied := tied_of_recordLaws laws
  obtain ⟨grp, held⟩ := tied.owner stands
  show RecordLaws (s.blockCircuit i circ)
  rcases circuitState_cases circ.state with idle | taken | blocked
  · rw [blockCircuit_of_idle idle] at writes ⊢
    have edit := CircuitEdit.loseIdle tied.toFramed stands held idle (state := .blocked) rfl
    refine recordLaws_of_edit laws writes edit (fun tag => ?_) rfl rfl ?_ (gentles_raiseTest _ _)
    · simp [idle]
    · rw [State.modifyGroup_eq]; rfl
  · rw [blockCircuit_of_taken taken] at writes ⊢
    have edit := CircuitEdit.put (new := { circ with blockPending := true }) stands held rfl rfl
    exact recordLaws_of_edit laws writes edit (fun _ => Iff.rfl) rfl rfl rfl .refl
  · rw [blockCircuit_of_blocked blocked]
    exact laws

theorem recordLaws_unblock {s : State} (laws : RecordLaws s) (body : List Byte) : RecordLaws (handleUnblock body s).1 := by
  rw [handleUnblock]
  refine withRecord_cases (P := fun a => RecordLaws a.1) (fun _ => laws) fun i circ stands => ?_
  have writes := writes_unblockCircuit s i circ
  obtain ⟨grp, held⟩ := (tied_of_recordLaws laws).owner stands
  show RecordLaws (s.unblockCircuit i circ)
  by_cases blocked : circ.state = .blocked
  · rw [unblockCircuit_of_blocked blocked] at writes ⊢
    have edit := CircuitEdit.gainIdle stands held (by rw [blocked]; rfl) false
    refine recordLaws_of_edit laws writes edit (fun tag => ?_) rfl rfl ?_ .refl
    · simp [blocked]
    · rw [State.modifyGroup_eq]; rfl
  · rw [unblockCircuit_of_other blocked] at writes ⊢
    have edit := CircuitEdit.put (new := { circ with blockPending := false }) stands held rfl rfl
    exact recordLaws_of_edit laws writes edit (fun _ => Iff.rfl) rfl rfl rfl .refl

/-- The ending of a guard, or of a circuit released at once, is an edit of the circuit with its group's idle count (R29, R30). -/
theorem endGuard_edit {s : State} {i : Nat} {circ : Circuit} {grp : Group} (stands : s.circuit? i = some circ)
    (held : s.group? circ.owner = some grp) (taken : circ.state.isIdle = false) :
    ∃ new after, CircuitEdit s (s.endGuard i circ) i circ new grp after ∧ (∀ tag, new.state ≠ .busy tag) ∧
      after.probe = grp.probe ∧ after.service = grp.service ∧ (s.endGuard i circ).ctb = s.ctb := by
  cases pending : circ.blockPending with
  | true =>
    rw [State.endGuard_pending pending]
    refine ⟨{ circ with state := .blocked, blockPending := false }, grp, CircuitEdit.put stands held rfl ?_, fun _ => nofun,
      rfl, rfl, rfl⟩
    simp only [Circuit.idles, taken]
    rfl
  | false =>
    rw [State.endGuard_idle pending]
    refine ⟨{ circ with state := .idle }, grp.gainIdle, CircuitEdit.gainIdle stands held taken circ.blockPending,
      fun _ => nofun, rfl, rfl, ?_⟩
    rw [State.modifyGroup_eq]
    rfl

theorem recordLaws_guardExpiry {s t : State} {i : Nat} (laws : RecordLaws s) (h : exec (.guardExpiry i) s = .next t) :
    RecordLaws t := by
  have writes := writes_guardExpiry h
  have h : execGuardExpiry i s = .next t := h
  rw [execGuardExpiry] at h
  split at h
  · cases h; exact laws
  next circ stands =>
    split at h
    next due =>
      cases h
      have guarding : circ.state.isIdle = false ∧ ∀ tag, circ.state ≠ .busy tag := by
        cases state : circ.state <;> simp_all [CircuitState.expiry?, Timer.due, CircuitState.isIdle]
      obtain ⟨grp, held⟩ := (tied_of_recordLaws laws).owner stands
      obtain ⟨new, after, e, free, probe, service, ctb⟩ := endGuard_edit stands held guarding.1
      exact recordLaws_of_edit laws writes e
        (fun tag => ⟨fun busy => absurd busy (free tag), fun busy => absurd busy (guarding.2 tag)⟩) probe service ctb .refl
    next => cases h; exact laws

/-! ### The freeing of the calls -/

theorem freed_owner (c : Circuit) : c.freed.owner = c.owner := by
  rw [Circuit.freed]
  split <;> rfl

theorem freed_not_busy (c : Circuit) (tag : Nat) : c.freed.state ≠ .busy tag := by
  rw [Circuit.freed]
  split
  · split <;> nofun
  · split <;> nofun
  next idle => rw [idle]; nofun
  next blocked => rw [blocked]; nofun

theorem circuit_freeCalls (s : State) (i : Nat) : s.freeCalls.circuit? i = (s.circuit? i).map Circuit.freed :=
  Table.get?_mapValues (fun _ (c : Circuit) => c.freed) s.tgm.circuits i

theorem group_freeCalls (s : State) (g : Nat) :
    s.freeCalls.group? g = (s.group? g).map fun grp => grp.recounted (s.freeCalls.idleCircuitCount g) :=
  Table.get?_mapValues (fun g (grp : Group) => grp.recounted (s.freeCalls.idleCircuitCount g)) s.tgm.groups g

theorem tied_freeCalls {s : State} {calls : Nat → Option Call} (k : Tied s calls) : Tied s.freeCalls fun _ => none := by
  refine ⟨⟨k.prefixes, fun g grp held => ?_, fun i c stands => ?_, fun g grp held => ?_, fun g grp i held within => ?_⟩, nofun,
    fun i c tag stands busy => ?_, fun g grp tag held probe => ?_⟩
  · rw [group_freeCalls, Option.map_eq_some_iff] at held
    obtain ⟨a, stood, rfl⟩ := held
    exact k.names g a stood
  · rw [circuit_freeCalls, Option.map_eq_some_iff] at stands
    obtain ⟨a, stood, rfl⟩ := stands
    obtain ⟨grp, held, within⟩ := k.owned i a stood
    rw [freed_owner, group_freeCalls, held]
    exact ⟨_, rfl, within⟩
  · rw [group_freeCalls, Option.map_eq_some_iff] at held
    obtain ⟨a, stood, rfl⟩ := held
    rfl
  · rw [group_freeCalls, Option.map_eq_some_iff] at held
    obtain ⟨a, stood, rfl⟩ := held
    obtain ⟨c, stands, owner⟩ := k.owns g a i stood within
    exact ⟨c.freed, by rw [circuit_freeCalls, stands]; rfl, (freed_owner c).trans owner⟩
  · rw [circuit_freeCalls, Option.map_eq_some_iff] at stands
    obtain ⟨a, _, rfl⟩ := stands
    exact absurd busy (freed_not_busy a tag)
  · rw [group_freeCalls, Option.map_eq_some_iff] at held
    obtain ⟨a, _, rfl⟩ := held
    cases probe

theorem recordLaws_freeCalls {s : State} (laws : RecordLaws s) : RecordLaws s.freeCalls := by
  have none : s.freeCalls.call? = fun _ => none := rfl
  exact (recordLaws_iff _).mpr ⟨canonical_freeCalls laws.1, by rw [none]; exact tied_freeCalls (tied_of_recordLaws laws)⟩

end Sys2Proof.Machine
end

section
/-! PROOFS. SET_GROUP (R19 to R22): what its checks establish, the circuits that a range takes and loses, and the laws between the
records after it. -/

namespace Sys2Proof.Machine

/-! ### The checks -/

/-- An accepted SET_GROUP names configured records, overlaps no other group, and changes neither the carrier, nor the class, nor the
range of a group in use (R19). -/
theorem checkGroup_eq_none {s : State} {f : GroupFields} (h : s.checkGroup f = none) :
    (s.account? f.config.carrier).isSome = true ∧ (s.tariff? f.config.tariffClass).isSome = true ∧
      (∀ e ∈ s.tgm.groups, e.1 ≠ f.index → e.2.config.overlaps f.config = false) ∧
      ∀ old, s.group? f.index = some old → s.groupInUse f.index = true →
        old.config.carrier = f.config.carrier ∧ old.config.tariffClass = f.config.tariffClass ∧
          old.config.movesRange f.config = false := by
  rw [State.checkGroup] at h
  split at h
  · cases h
  · split at h
    · cases h
    · split at h
      · cases h
      · split at h
        · cases h
        · split at h
          · cases h
          next configured =>
            split at h
            · cases h
            next apart =>
              rw [Bool.or_eq_true, not_or, Option.isNone_iff_eq_none, Option.isNone_iff_eq_none, ← Ne, ← Ne,
                ← Option.isSome_iff_ne_none, ← Option.isSome_iff_ne_none] at configured
              refine ⟨configured.1, configured.2, fun e he other => ?_, fun old held inUse => ?_⟩
              · rw [← Bool.not_eq_true]
                intro overlaps
                refine apart (List.any_eq_true.mpr ⟨e, he, ?_⟩)
                rw [overlaps, Bool.and_true]
                exact decide_eq_true other
              · rw [held] at h
                simpa [inUse, and_assoc] using h

/-- The clamps leave the carrier, the class and the range as sent (R20). -/
theorem clamped_range (c : GroupConfig) :
    c.clamped.carrier = c.carrier ∧ c.clamped.tariffClass = c.tariffClass ∧ c.clamped.firstCircuit = c.firstCircuit ∧
      c.clamped.circuitCount = c.circuitCount := ⟨rfl, rfl, rfl, rfl⟩

/-- A circuit in two ranges is where they overlap. -/
theorem overlaps_of_inRange {a b : GroupConfig} {i : Nat} (ha : a.inRange i = true) (hb : b.inRange i = true) :
    a.overlaps b = true := by
  simp only [GroupConfig.inRange, GroupConfig.overlaps, Bool.and_eq_true, decide_eq_true_eq] at *
  omega

/-! ### The circuits of a range -/

/-- What a circuit is after its group has taken its range: the group's own as it was, another one fresh. -/
def claimed (g : Nat) (c : Option Circuit) : Option Circuit := if c.map (·.owner) = some g then c else some (freshCircuit g)

theorem get?_claimRange_go (g : Nat) (l : List Nat) (t : Table Circuit) (i : Nat) :
    (l.foldl (fun t i => if decide ((Table.get? t i).map (·.owner) = some g) then t else Table.put t i (freshCircuit g)) t).get? i =
      if i ∈ l then claimed g (t.get? i) else t.get? i := by
  induction l generalizing t with
  | nil => rfl
  | cons j l ih =>
    rw [List.foldl_cons, ih]
    have step : Table.get? (if decide ((Table.get? t j).map (·.owner) = some g) then t else Table.put t j (freshCircuit g)) i =
        if i = j then claimed g (t.get? i) else t.get? i := by
      by_cases same : i = j
      · subst same
        rw [if_pos rfl, claimed]
        by_cases own : (Table.get? t i).map (·.owner) = some g
        · simp [own]
        · simp [own]
      · rw [if_neg same]
        split
        · rfl
        · exact Table.get?_put_ne _ _ same
    have again : claimed g (claimed g (t.get? i)) = claimed g (t.get? i) := by
      rw [claimed, if_pos]
      rw [claimed]
      split
      next own => exact own
      next => rfl
    rw [step]
    by_cases same : i = j
    · have here : i ∈ j :: l := by simp [same]
      rw [if_pos same, if_pos here]
      split
      · exact again
      · rfl
    · simp [same]

/-- The circuit at an index after a group has taken a range (R21, R22). -/
theorem get?_claimRange (g : Nat) (c : GroupConfig) (t : Table Circuit) (i : Nat) :
    (claimRange g c t).get? i = if c.inRange i = true then claimed g (t.get? i) else t.get? i := by
  rw [claimRange, get?_claimRange_go]
  simp only [inRange_iff]

/-- Circuits of one range, all alike, as a table. -/
theorem get?_range' (first count : Nat) (c : Circuit) (i : Nat) :
    Table.get? ((List.range' first count).map fun j => (j, c)) i = if first ≤ i ∧ i < first + count then some c else none := by
  induction count generalizing first with
  | zero =>
    have none : ¬ (first ≤ i ∧ i < first + 0) := by omega
    rw [if_neg none]
    rfl
  | succ count ih =>
    rw [List.range'_succ, List.map_cons, Table.get?_cons, ih]
    by_cases here : first = i
    · have within : first ≤ i ∧ i < first + (count + 1) := by omega
      simp [here]
    · by_cases later : first + 1 ≤ i ∧ i < first + 1 + count
      · have within : first ≤ i ∧ i < first + (count + 1) := by omega
        rw [if_neg here, if_pos later, if_pos within]
      · have without : ¬ (first ≤ i ∧ i < first + (count + 1)) := by omega
        rw [if_neg here, if_neg later, if_neg without]

theorem wf_range' (first count : Nat) (c : Circuit) :
    Table.wf ((List.range' first count).map fun j => (j, c)) = true := by
  induction count generalizing first with
  | zero => rfl
  | succ count ih =>
    rw [List.range'_succ, List.map_cons, Table.wf_cons]
    refine ⟨fun e he => ?_, ih _⟩
    obtain ⟨j, hj, rfl⟩ := List.mem_map.mp he
    have := List.mem_range'_1.mp hj
    exact this.1

/-! ### A group with a new configuration -/

/-- A group takes a configuration, and the circuits of its range with it. -/
structure RangeEdit (s t : State) (g : Nat) (after : Group) : Prop where
  rsl : t.rsl = s.rsl
  chu : t.chu = s.chu
  wf : t.tgm.circuits.wf = true
  group : t.group? g = some after
  others : ∀ h, h ≠ g → t.group? h = s.group? h
  foreign : ∀ i c, c.owner ≠ g → (t.circuit? i = some c ↔ s.circuit? i = some c)
  own : ∀ i, after.config.inRange i = true → ∃ c, t.circuit? i = some c ∧ c.owner = g
  within : ∀ i c, t.circuit? i = some c → c.owner = g → after.config.inRange i = true
  names : (s.account? after.config.carrier).isSome = true ∧ (s.tariff? after.config.tariffClass).isSome = true
  idle : after.idleCount = t.idleCircuitCount g

namespace RangeEdit
variable {s t : State} {g : Nat} {after : Group}

theorem framed (e : RangeEdit s t g after) (wf : s.tgm.circuits.wf = true) (k : Framed s) : Framed t := by
  refine ⟨fun d hd => ?_, fun h b held => ?_, fun i c stands => ?_, fun h b held => ?_, fun h b i held inside => ?_⟩
  · rw [e.rsl] at hd
    rw [State.plan?, e.rsl]
    exact k.prefixes d hd
  · rw [State.account?, State.tariff?, e.chu]
    by_cases own : h = g
    · rw [own, e.group] at held
      cases held
      exact e.names
    · rw [e.others h own] at held
      exact k.names h b held
  · by_cases own : c.owner = g
    · exact ⟨after, by rw [own]; exact e.group, e.within i c stands own⟩
    · obtain ⟨a, held, inside⟩ := k.owned i c ((e.foreign i c own).mp stands)
      exact ⟨a, by rw [e.others _ own]; exact held, inside⟩
  · by_cases own : h = g
    · rw [own, e.group] at held
      cases held
      rw [own]
      exact e.idle
    · rw [e.others h own] at held
      rw [k.idle h b held]
      exact (idleCircuitCount_congr wf e.wf fun i c owner => e.foreign i c (by rw [owner]; exact own)).symm
  · by_cases own : h = g
    · subst own
      rw [e.group] at held
      cases held
      exact e.own i inside
    · rw [e.others h own] at held
      obtain ⟨c, stands, owner⟩ := k.owns h b i held inside
      exact ⟨c, (e.foreign i c (by rw [owner]; exact own)).mpr stands, owner⟩

/-- A call of another group relies on what stands. -/
theorem callTied (e : RangeEdit s t g after) {tag : Nat} {c : Call} (k : CallTied s tag c) (apart : c.group ≠ g) :
    CallTied t tag c := by
  obtain ⟨live, timers, plan, incoming, ⟨grp, held, cls, marked⟩, circ, stands, owner, state⟩ := k
  refine ⟨live, timers, by rw [State.plan?, e.rsl]; exact plan, by rw [State.account?, e.chu]; exact incoming,
    ⟨grp, by rw [e.others _ apart]; exact held, cls, marked⟩, circ, ?_, owner, state⟩
  exact (e.foreign _ circ (by rw [owner]; exact apart)).mpr stands

/-- A group with no circuit BUSY, before and after, has no call that could rely on it. -/
theorem tied_quiet (e : RangeEdit s t g after) (wf : s.tgm.circuits.wf = true) {calls : Nat → Option Call} (k : Tied s calls)
    (before : ∀ i c, s.circuit? i = some c → c.owner = g → ∀ tag, c.state ≠ .busy tag)
    (now : ∀ i c, t.circuit? i = some c → c.owner = g → ∀ tag, c.state ≠ .busy tag) (probe : after.probe = none) :
    Tied t calls := by
  refine ⟨e.framed wf k.toFramed, fun tag c held => e.callTied (k.tied tag c held) (k.no_call before held),
    fun i c tag stands busy => ?_, fun h b tag held marked => ?_⟩
  · have apart : c.owner ≠ g := fun own => now i c stands own tag busy
    exact k.busy i c tag ((e.foreign i c apart).mp stands) busy
  · by_cases own : h = g
    · rw [own, e.group] at held
      cases held
      rw [probe] at marked
      cases marked
    · rw [e.others h own] at held
      exact k.probes h b tag held marked

/-- A group in use keeps its circuits, its class, its probe and its service state. -/
theorem tied_inUse (e : RangeEdit s t g after) (wf : s.tgm.circuits.wf = true) {calls : Nat → Option Call} (k : Tied s calls)
    {before : Group} (held : s.group? g = some before) (circuits : t.tgm.circuits = s.tgm.circuits)
    (cls : after.config.tariffClass = before.config.tariffClass) (probe : after.probe = before.probe)
    (service : after.service = before.service) : Tied t calls := by
  have circuit : ∀ i, t.circuit? i = s.circuit? i := fun i => by rw [State.circuit?, circuits]; rfl
  refine ⟨e.framed wf k.toFramed, fun tag c stood => ?_, fun i c tag stands busy => ?_, fun h b tag stood marked => ?_⟩
  · have old := k.tied tag c stood
    by_cases own : c.group = g
    · obtain ⟨live, timers, plan, incoming, ⟨grp, there, same, marked⟩, circ, stands, owner, state⟩ := old
      rw [own, held] at there
      cases there
      exact ⟨live, timers, by rw [State.plan?, e.rsl]; exact plan, by rw [State.account?, e.chu]; exact incoming,
        ⟨after, by rw [own]; exact e.group, cls.trans same, fun flag => probe.trans (marked flag)⟩, circ,
        by rw [circuit]; exact stands, owner, state⟩
    · exact e.callTied old own
  · rw [circuit] at stands
    exact k.busy i c tag stands busy
  · by_cases own : h = g
    · subst own
      rw [e.group] at stood
      cases stood
      rw [probe] at marked
      rw [service]
      exact k.probes _ before tag held marked
    · rw [e.others h own] at stood
      exact k.probes h b tag stood marked

end RangeEdit

/-! ### The circuits that a range takes and loses -/

/-- What of the range is checked against the groups that stand: a circuit of it belongs to the group itself or to none. -/
theorem owner_of_inRange {s : State} (k : Framed s) {g : Nat} {c : GroupConfig}
    (apart : ∀ e ∈ s.tgm.groups, e.1 ≠ g → e.2.config.overlaps c = false) {i : Nat} {circ : Circuit}
    (stands : s.circuit? i = some circ) (inside : c.inRange i = true) : circ.owner = g := by
  refine Decidable.byContradiction fun other => ?_
  obtain ⟨grp, held, within⟩ := k.owned i circ stands
  have meets := overlaps_of_inRange within inside
  rw [apart _ (Table.mem_of_get? _ held) other] at meets
  cases meets

/-- The circuits after a group has lost those outside its range and taken those inside (R21, R22). -/
theorem circuit_claimed {s : State} (wf : s.tgm.circuits.wf = true) {g : Nat} {c : GroupConfig}
    {keep : Nat × Circuit → Bool} (i : Nat) :
    (claimRange g c (s.tgm.circuits.filter keep)).get? i =
      if c.inRange i = true then claimed g ((s.circuit? i).filter fun v => keep (i, v)) else
        (s.circuit? i).filter fun v => keep (i, v) := by
  rw [get?_claimRange, Table.get?_filter _ wf]
  rfl

theorem claimed_eq_some {g : Nat} {o : Option Circuit} {c : Circuit} (h : claimed g o = some c) :
    c.owner = g ∧ (o = some c ∨ c = freshCircuit g) := by
  rw [claimed] at h
  split at h
  next own =>
    subst h
    exact ⟨by simpa using own, .inl rfl⟩
  next =>
    cases h
    exact ⟨rfl, .inr rfl⟩

theorem claimed_isSome (g : Nat) (o : Option Circuit) : ∃ c, claimed g o = some c := by
  rw [claimed]
  split
  next own =>
    cases o with
    | none => cases own
    | some c => exact ⟨c, rfl⟩
  next => exact ⟨_, rfl⟩

/-- A group whose range is taken anew: its circuits are those of the range, and no other group's circuit changes. -/
theorem rangeEdit_claimed {s t : State} (laws : RecordLaws s) {g : Nat} {after : Group} {keep : Nat × Circuit → Bool}
    (rsl : t.rsl = s.rsl) (chu : t.chu = s.chu)
    (circuits : t.tgm.circuits = claimRange g after.config (s.tgm.circuits.filter keep))
    (keepForeign : ∀ e, e.2.owner ≠ g → keep e = true)
    (keepOwn : ∀ i c, c.owner = g → after.config.inRange i = false → keep (i, c) = false)
    (group : t.group? g = some after) (others : ∀ h, h ≠ g → t.group? h = s.group? h)
    (names : (s.account? after.config.carrier).isSome = true ∧ (s.tariff? after.config.tariffClass).isSome = true)
    (apart : ∀ e ∈ s.tgm.groups, e.1 ≠ g → e.2.config.overlaps after.config = false)
    (idle : after.idleCount = t.idleCircuitCount g) :
    RangeEdit s t g after ∧
      ∀ i c, t.circuit? i = some c → c.owner = g → s.circuit? i = some c ∨ c = freshCircuit g := by
  have wf := circuits_wf laws
  have tied := tied_of_recordLaws laws
  have circuit : ∀ i, t.circuit? i = if after.config.inRange i = true
      then claimed g ((s.circuit? i).filter fun v => keep (i, v)) else (s.circuit? i).filter fun v => keep (i, v) := fun i => by
    rw [State.circuit?, circuits]
    exact circuit_claimed wf i
  have came : ∀ i c, t.circuit? i = some c → c.owner = g →
      after.config.inRange i = true ∧ (s.circuit? i = some c ∨ c = freshCircuit g) := by
    intro i c stands own
    rw [circuit] at stands
    split at stands
    next inside =>
      refine ⟨inside, ?_⟩
      rcases (claimed_eq_some stands).2 with stood | fresh
      · exact .inl (Option.filter_eq_some_iff.mp stood).1
      · exact .inr fresh
    next outside =>
      obtain ⟨_, kept⟩ := Option.filter_eq_some_iff.mp stands
      rw [keepOwn i c own (by simpa using outside)] at kept
      cases kept
  refine ⟨⟨rsl, chu, ?_, group, others, fun i c other => ?_, fun i inside => ?_, fun i c stands own => (came i c stands own).1,
    names, idle⟩, fun i c stands own => (came i c stands own).2⟩
  · rw [circuits]
    exact wf_claimRange g _ _ (Table.wf_filter _ wf _)
  · rw [circuit]
    split
    next inside =>
      refine ⟨fun stands => absurd (claimed_eq_some stands).1 other, fun stands => ?_⟩
      exact absurd (owner_of_inRange tied.toFramed apart stands inside) other
    next =>
      rw [Option.filter_eq_some_iff]
      exact and_iff_left (keepForeign _ other)
  · obtain ⟨c, taken⟩ := claimed_isSome g ((s.circuit? i).filter fun v => keep (i, v))
    refine ⟨c, ?_, (claimed_eq_some taken).1⟩
    rw [circuit, if_pos inside]
    exact taken

/-! ### The two cases of SET_GROUP -/

/-- A group that is not configured owns no circuit (R25). -/
theorem Framed.unowned {s : State} (k : Framed s) {g : Nat} (missing : s.group? g = none) {i : Nat} {c : Circuit}
    (stands : s.circuit? i = some c) : c.owner ≠ g := by
  intro own
  obtain ⟨grp, held⟩ := k.owner stands
  rw [own, missing] at held
  cases held

/-- A created group's circuits are all fresh, and so all IDLE (R21). -/
theorem idleCircuitCount_create {s t : State} (laws : RecordLaws s) {g : Nat} {c : GroupConfig} (missing : s.group? g = none)
    (circuits : t.tgm.circuits = claimRange g c (dropOwned g s.tgm.circuits)) : t.idleCircuitCount g = c.circuitCount := by
  have wf := circuits_wf laws
  have dropped : ∀ i, Table.get? (dropOwned g s.tgm.circuits) i = s.circuit? i := fun i => by
    rw [dropOwned, Table.get?_filter _ wf]
    ext v
    rw [Option.filter_eq_some_iff]
    refine and_iff_left_of_imp fun stands => ?_
    simpa using (tied_of_recordLaws laws).unowned missing stands
  have wf' : t.tgm.circuits.wf = true := by
    rw [circuits]
    exact wf_claimRange g c _ (Table.wf_filter _ wf _)
  have table : t.tgm.circuits.filter (fun e => decide (e.2.owner = g) && e.2.state.isIdle) =
      (List.range' c.firstCircuit c.circuitCount).map fun i => (i, freshCircuit g) := by
    refine Table.ext (Table.wf_filter _ wf' _) (wf_range' _ _ _) fun i => ?_
    rw [Table.get?_filter _ wf', circuits, get?_claimRange, dropped, get?_range']
    have bounds : c.inRange i = true ↔ c.firstCircuit ≤ i ∧ i < c.firstCircuit + c.circuitCount := by
      simp [GroupConfig.inRange]
    have unowned : (s.circuit? i).map (·.owner) ≠ some g := by
      cases stands : s.circuit? i with
      | none => simp
      | some v => simpa using (tied_of_recordLaws laws).unowned missing stands
    by_cases inside : c.inRange i = true
    · rw [if_pos inside, if_pos (bounds.mp inside), claimed, if_neg unowned]
      simp [freshCircuit, CircuitState.isIdle]
    · rw [if_neg inside, if_neg (mt bounds.mpr inside)]
      cases stands : s.circuit? i with
      | none => rfl
      | some v => simp [(tied_of_recordLaws laws).unowned missing stands]
  rw [State.idleCircuitCount, State.countCircuits, table, List.length_map, List.length_range']

theorem tied_createGroup {s : State} (laws : RecordLaws s) {g : Nat} {c : GroupConfig} (missing : s.group? g = none)
    (names : (s.account? c.carrier).isSome = true ∧ (s.tariff? c.tariffClass).isSome = true)
    (apart : ∀ e ∈ s.tgm.groups, e.1 ≠ g → e.2.config.overlaps c = false) : Tied (s.createGroup g c) s.call? := by
  have tied := tied_of_recordLaws laws
  have before : ∀ i v, s.circuit? i = some v → v.owner = g → ∀ tag, v.state ≠ .busy tag :=
    fun i v stands own => absurd own (tied.unowned missing stands)
  refine Tied.relied (relied_gentles (gentles_raiseTest _ g)) ?_
  have edit := rangeEdit_claimed (s := s) (g := g) (after := newGroup c s.now)
    (t := (s.setCircuits (claimRange g c (dropOwned g s.tgm.circuits))).putGroup g (newGroup c s.now)) laws rfl rfl rfl
    (keep := fun e => decide (e.2.owner ≠ g)) (fun e other => by simpa using other) (fun i v own _ => by simp [own])
    (State.group_putGroup_self _ _ _) (fun h other => State.group_putGroup_ne _ _ _ _ other) names apart
    (idleCircuitCount_create laws missing rfl).symm
  obtain ⟨edit, came⟩ := edit
  refine edit.tied_quiet (circuits_wf laws) tied before (fun i v stands own tag => ?_) rfl
  rcases came i v stands own with stood | rfl
  · exact before i v stood own tag
  · nofun

/-- Of a group that is not in use no call and no probe stands, so it may take any configuration (R22). -/
theorem tied_rewritten_unused {s : State} (laws : RecordLaws s) {g : Nat} {grp : Group} {c : GroupConfig}
    (held : s.group? g = some grp) (unused : ¬ s.groupInUse g = true)
    (names : (s.account? c.carrier).isSome = true ∧ (s.tariff? c.tariffClass).isSome = true)
    (apart : ∀ e ∈ s.tgm.groups, e.1 ≠ g → e.2.config.overlaps c = false) :
    Tied ((s.moveRange g grp.config c).putGroup g (grp.rewritten c ((s.moveRange g grp.config c).idleCircuitCount g)))
      s.call? := by
  have tied := tied_of_recordLaws laws
  have before : ∀ i v, s.circuit? i = some v → v.owner = g → ∀ tag, v.state ≠ .busy tag := fun i v stands own =>
    isBusy_eq_false (groupInUse_eq_false unused stands own).1
  have probe : ∀ idle, (grp.rewritten c idle).probe = none := fun idle => by
    rw [← tied.no_probe before held, Group.rewritten]
    split <;> rfl
  have config : ∀ idle, (grp.rewritten c idle).config = c := fun idle => by
    rw [Group.rewritten]
    split <;> rfl
  by_cases moves : grp.config.movesRange c = true
  · have moved : s.moveRange g grp.config c = s.setCircuits (claimRange g c (dropOutside g c s.tgm.circuits)) := if_pos moves
    have edit := rangeEdit_claimed (s := s) (g := g)
      (after := grp.rewritten c ((s.moveRange g grp.config c).idleCircuitCount g))
      (t := (s.moveRange g grp.config c).putGroup g (grp.rewritten c ((s.moveRange g grp.config c).idleCircuitCount g)))
      (keep := fun e => decide (e.2.owner ≠ g) || c.inRange e.1) laws (by rw [moved]; rfl) (by rw [moved]; rfl)
      (by rw [config, moved]; rfl) (fun e other => by simp [other])
      (fun i v own outside => by rw [config] at outside; simp [own, outside])
      (State.group_putGroup_self _ _ _)
      (fun h other => by rw [State.group_putGroup_ne _ _ _ _ other, moved]; rfl) (by rw [config]; exact names)
      (by rw [config]; exact apart) (by rw [Group.rewritten, if_pos moves]; rfl)
    obtain ⟨edit, came⟩ := edit
    refine edit.tied_quiet (circuits_wf laws) tied before (fun i v stands own tag => ?_) (probe _)
    rcases came i v stands own with stood | rfl
    · exact before i v stood own tag
    · nofun
  · have stays : s.moveRange g grp.config c = s := if_neg moves
    have same : c.firstCircuit = grp.config.firstCircuit ∧ c.circuitCount = grp.config.circuitCount := by
      simp only [GroupConfig.movesRange, ne_eq, decide_not, Bool.or_eq_true, Bool.not_eq_true', decide_eq_false_iff_not, not_or,
        Decidable.not_not] at moves
      exact ⟨moves.1.symm, moves.2.symm⟩
    have inRange : ∀ i, c.inRange i = grp.config.inRange i := fun i => by
      rw [GroupConfig.inRange, GroupConfig.inRange, same.1, same.2]
    rw [stays]
    have edit : RangeEdit s (s.putGroup g (grp.rewritten c (s.idleCircuitCount g))) g
        (grp.rewritten c (s.idleCircuitCount g)) := by
      refine ⟨rfl, rfl, circuits_wf (s := s) laws, State.group_putGroup_self _ _ _, fun h other => State.group_putGroup_ne _ _ _ _ other,
        fun _ _ _ => Iff.rfl, fun i inside => ?_, fun i v stands own => ?_, by rw [config]; exact names, ?_⟩
      · rw [config, inRange] at inside
        exact tied.owns g grp i held inside
      · obtain ⟨a, there, within⟩ := tied.owned i v stands
        rw [own, held] at there
        cases there
        rw [config, inRange]
        exact within
      · rw [Group.rewritten, if_neg moves]
        exact tied.idle g grp held
    exact edit.tied_quiet (circuits_wf laws) tied before before (probe _)

/-- A group in use takes the tuning fields alone (R19, R22). -/
theorem tied_rewritten_inUse {s : State} (laws : RecordLaws s) {g : Nat} {grp : Group} {c : GroupConfig}
    (held : s.group? g = some grp) (carrier : grp.config.carrier = c.carrier) (cls : grp.config.tariffClass = c.tariffClass)
    (stays : grp.config.movesRange c = false) :
    Tied ((s.moveRange g grp.config c).putGroup g (grp.rewritten c ((s.moveRange g grp.config c).idleCircuitCount g)))
      s.call? := by
  have tied := tied_of_recordLaws laws
  have moves : ¬ grp.config.movesRange c = true := by rw [stays]; nofun
  have moved : s.moveRange g grp.config c = s := if_neg moves
  have after : ∀ idle, grp.rewritten c idle = { grp with config := c } := fun idle => if_neg moves
  have same : grp.config.firstCircuit = c.firstCircuit ∧ grp.config.circuitCount = c.circuitCount := by
    simpa [GroupConfig.movesRange] using stays
  have inRange : ∀ i, c.inRange i = grp.config.inRange i := fun i => by
    rw [GroupConfig.inRange, GroupConfig.inRange, same.1, same.2]
  rw [moved, after]
  have edit : RangeEdit s (s.putGroup g { grp with config := c }) g { grp with config := c } := by
    refine ⟨rfl, rfl, circuits_wf (s := s) laws, State.group_putGroup_self _ _ _, fun h other => State.group_putGroup_ne _ _ _ _ other,
      fun _ _ _ => Iff.rfl, fun i inside => ?_, fun i v stands own => ?_, ?_, tied.idle g grp held⟩
    · rw [inRange] at inside
      exact tied.owns g grp i held inside
    · obtain ⟨a, there, within⟩ := tied.owned i v stands
      rw [own, held] at there
      cases there
      rw [inRange]
      exact within
    · show (s.account? c.carrier).isSome = true ∧ (s.tariff? c.tariffClass).isSome = true
      rw [← carrier, ← cls]
      exact tied.names g grp held
  exact edit.tied_inUse (circuits_wf laws) tied held rfl cls.symm rfl rfl

theorem relied_restartWindow (s : State) (g : Nat) : Relied s (s.restartWindow g) :=
  relied_gentles (gentles_modifyGroup s g _ (fun _ => ⟨rfl, rfl, rfl, .inr rfl⟩) fun _ h => h.beginWindow _ _)

theorem tied_rewriteGroup {s : State} (laws : RecordLaws s) {f : GroupFields} {grp : Group} (accepted : s.checkGroup f = none)
    (held : s.group? f.index = some grp) : Tied (s.rewriteGroup f.index grp f.config.clamped) s.call? := by
  obtain ⟨carrier, cls, apart, kept⟩ := checkGroup_eq_none accepted
  refine Tied.relied ((relied_gentles (gentles_raiseTest _ f.index)).trans (relied_restartWindow _ f.index)) ?_
  by_cases inUse : s.groupInUse f.index = true
  · obtain ⟨sameCarrier, sameClass, stays⟩ := kept grp held inUse
    exact tied_rewritten_inUse laws held sameCarrier sameClass stays
  · exact tied_rewritten_unused laws held inUse ⟨carrier, cls⟩ apart

theorem raiseTest_calls (s : State) (g : Nat) : (s.raiseTest g).ctb = s.ctb := (relied_gentles (gentles_raiseTest s g)).calls

theorem recordLaws_setGroup {s : State} (laws : RecordLaws s) (body : List Byte) : RecordLaws (handleSetGroup body s).1 := by
  have writes := writes_handleSetGroup body s
  rw [handleSetGroup] at writes ⊢
  split
  · exact laws
  next f read =>
    split
    · exact laws
    next accepted =>
      obtain ⟨carrier, cls, apart, _⟩ := checkGroup_eq_none accepted
      split
      next missing =>
        refine recordLaws_of_tied laws (writes_createGroup s f.index f.config.clamped_ordered)
          (tied_createGroup laws missing ⟨carrier, cls⟩ apart) fun tag => ?_
        show Table.get? (State.raiseTest _ f.index).ctb tag = _
        rw [raiseTest_calls]
        rfl
      next grp held =>
        refine recordLaws_of_tied laws (writes_rewriteGroup held f.config.clamped_ordered)
          (tied_rewriteGroup laws accepted held) fun tag => ?_
        show Table.get? (State.restartWindow _ f.index).ctb tag = _
        rw [(relied_restartWindow _ f.index).calls, raiseTest_calls, State.putGroup_ctb, State.moveRange]
        split <;> rfl

end Sys2Proof.Machine
end

section
/-! PROOFS. What the operations on a call do to the laws between the records, and that they find the records they read: the report and
the release (R82, R103), the candidate test and the search (R61, R67), and the seizure of a circuit for a call (R68). -/

namespace Sys2Proof.Machine

/-! ### The group that a report leaves -/

/-- A group under trial, in which a probe may stand (R102). -/
def ServiceState.onTrial (service : ServiceState) : Prop := service = .reopenFirst ∨ service = .reopenSecond

theorem Group.afterFaults_keeps (grp : Group) (ev : CallEvent) (now : Nat) :
    (grp.afterFaults ev now).config = grp.config ∧ (grp.afterFaults ev now).idleCount = grp.idleCount ∧
      (grp.afterFaults ev now).probe = grp.probe ∧
      (grp.service.onTrial → (grp.afterFaults ev now).service = grp.service) := by
  rw [Group.afterFaults]
  split
  · exact ⟨rfl, rfl, rfl, fun _ => rfl⟩
  · exact ⟨rfl, rfl, rfl, fun _ => rfl⟩
  · split
    next suspends =>
      refine ⟨rfl, rfl, rfl, fun trial => ?_⟩
      rw [Group.faultsSuspend, Bool.and_eq_true, decide_eq_true_eq] at suspends
      rw [ServiceState.onTrial, suspends.1] at trial
      rcases trial with h | h <;> cases h
    next => exact ⟨rfl, rfl, rfl, fun _ => rfl⟩

theorem Group.afterEvidence_keeps (grp : Group) (held : ServiceState) (e : Evidence) (now : Nat) :
    (grp.afterEvidence held e now).config = grp.config ∧ (grp.afterEvidence held e now).idleCount = grp.idleCount ∧
      (grp.afterEvidence held e now).probe = grp.probe ∧
      (e ≠ .success → grp.service.onTrial → (grp.afterEvidence held e now).service.onTrial) := by
  unfold Group.afterEvidence
  split
  · exact ⟨rfl, rfl, rfl, fun none => absurd rfl none⟩
  · exact ⟨rfl, rfl, rfl, fun none => absurd rfl none⟩
  · exact ⟨rfl, rfl, rfl, fun _ _ => .inl rfl⟩
  · exact ⟨rfl, rfl, rfl, fun _ _ => .inl rfl⟩
  · exact ⟨rfl, rfl, rfl, fun _ trial => trial⟩

/-- Only the probe's own events are success (R103). -/
theorem CallEvent.evidence_ne_success (ev : CallEvent) : ev.evidence false ≠ .success := by
  cases ev <;> nofun

theorem Group.reported_keeps (grp : Group) (tag : Nat) (ev : CallEvent) (now : Nat) :
    (grp.reported tag ev now).config = grp.config ∧ (grp.reported tag ev now).idleCount = grp.idleCount ∧
      (grp.reported tag ev now).probe = (if grp.probe = some tag then none else grp.probe) ∧
      (grp.probe ≠ some tag → grp.service.onTrial → (grp.reported tag ev now).service.onTrial) := by
  obtain ⟨config, idle, probe, service⟩ := grp.afterFaults_keeps ev now
  obtain ⟨config', idle', probe', service'⟩ :=
    (grp.afterFaults ev now).afterEvidence_keeps grp.service (ev.evidence (decide (grp.probe = some tag))) now
  refine ⟨config'.trans config, idle'.trans idle, ?_, fun other trial => service' ?_ ?_⟩
  · rw [Group.reported, probe', probe]
  · rw [decide_eq_false other]
    exact ev.evidence_ne_success
  · rw [service trial]
    exact trial

/-! ### The report and the release -/

theorem Edits.groupEdit {s t : State} {g : Nat} {before after : Group} {offered : List Advisory} (e : Edits s t g after offered)
    (held : s.group? g = some before) (config : after.config = before.config) (idle : after.idleCount = before.idleCount) :
    GroupEdit s t g before after :=
  ⟨by rw [e.frame], by rw [e.frame], by rw [e.frame], held, e.group, e.others, config, idle⟩

/-- A report on a live call finds the call's group, keeps the laws, and leaves the call without the mark of a probe (R102, R103). -/
theorem report_tied {s : State} (k : Tied s s.call?) {tag : Nat} {call : Call} (live : s.call? tag = some call)
    (ev : CallEvent) :
    ∃ t, s.report tag call.group ev = some t ∧ Tied t t.call? ∧ t.call? tag = some { call with probe := false } := by
  obtain ⟨grp, held, -, marked⟩ := (k.tied tag call live).group
  obtain ⟨u, edits, reported⟩ := report_eq held tag ev
  obtain ⟨config, idle, probe, service⟩ := grp.reported_keeps tag ev s.now
  have edit := edits.groupEdit held config idle
  have calls : ∀ other, u.call? other = s.call? other := fun other => by rw [edits.frame]; rfl
  refine ⟨_, reported, ?_⟩
  by_cases isProbe : grp.probe = some tag
  · rw [if_pos isProbe] at probe ⊢
    have cleared : (u.modifyCall tag fun c => { c with probe := false }).call? tag = some { call with probe := false } := by
      rw [State.call_modifyCall, calls, live, Option.map_some, if_pos rfl]
    have others : ∀ other, other ≠ tag →
        (u.modifyCall tag fun c => { c with probe := false }).call? other = s.call? other := fun other ne => by
      rw [State.call_modifyCall, calls]
      simp [ne]
    refine ⟨?_, cleared⟩
    have tied : Tied u (u.modifyCall tag fun c => { c with probe := false }).call? := by
      refine edit.tied (fun other => ?_) (.inr ⟨probe, fun other named => ?_⟩) (fun other named => ?_) k
      · by_cases same : other = tag
        · subst same
          exact .inr ⟨isProbe, probe, by rw [cleared, live]; rfl⟩
        · exact .inl (others other same)
      · rw [isProbe, Option.some.injEq] at named
        subst named
        rw [cleared, live]
        rfl
      · rw [probe] at named; cases named
    exact tied.of_same (State.modifyCall_rsl _ _ _) (State.modifyCall_tgm _ _ _) (State.modifyCall_chu _ _ _)
  · rw [if_neg isProbe] at probe ⊢
    have plain : call.probe = false := by
      cases flag : call.probe with
      | false => rfl
      | true => exact absurd (marked flag) isProbe
    have same : u.call? = s.call? := funext calls
    refine ⟨?_, ?_⟩
    · rw [same]
      exact edit.tied (fun _ => .inl rfl) (.inl probe) (fun _ _ => service isProbe) k
    · rw [calls, live]
      obtain ⟨⟩ := call
      cases plain
      rfl

/-- The release of a live call's circuit finds it BUSY; the call, which is no probe, then has no circuit (R29, R82). -/
theorem release_tied {s : State} (wf : s.tgm.circuits.wf = true) {calls : Nat → Option Call} (k : Tied s calls) {tag : Nat}
    {call : Call} (live : calls tag = some call) (plain : call.probe = false) :
    ∃ t, s.release call.circuit = some t ∧ Tied t (dropCall calls tag) ∧ t.ctb = s.ctb := by
  obtain ⟨circ, stands, owner, busy⟩ := (k.tied tag call live).circuit
  obtain ⟨grp, held⟩ := k.toFramed.owner stands
  have taken : circ.state.isBusy = true ∧ circ.state.isIdle = false := by rw [busy]; exact ⟨rfl, rfl⟩
  have released : s.release call.circuit =
      some (if grp.config.guardTime = 0 then s.endGuard call.circuit circ
        else s.putCircuit call.circuit { circ with state := .guarding (s.now + grp.config.guardTime) }) := by
    simp only [State.release, stands, held, Option.bind_eq_bind, Option.bind_some, taken.1, if_true, Option.pure_def]
    split <;> rfl
  refine ⟨_, released, ?_⟩
  split
  · obtain ⟨new, after, e, free, probe, service, ctb⟩ := endGuard_edit stands held taken.2
    exact ⟨e.released wf busy free probe service live plain k, ctb⟩
  · have e : CircuitEdit s (s.putCircuit call.circuit { circ with state := .guarding (s.now + grp.config.guardTime) })
        call.circuit circ { circ with state := .guarding (s.now + grp.config.guardTime) } grp grp := by
      refine CircuitEdit.put stands held rfl ?_
      simp only [Circuit.idles, taken.2]
      rfl
    exact ⟨e.released wf busy (fun _ => nofun) rfl rfl live plain k, rfl⟩

/-- A report that releases the circuit finds its records; the call stands on without a circuit (R82). -/
theorem reportRelease_tied {s : State} (laws : RecordLaws s) {tag : Nat} {call : Call} (live : s.call? tag = some call)
    (ev : CallEvent) :
    ∃ t, s.reportRelease tag call.group call.circuit ev = some t ∧ Tied t (dropCall t.call? tag) := by
  obtain ⟨r, reported, tied, stands⟩ := report_tied (tied_of_recordLaws laws) live ev
  have wf : r.tgm.circuits.wf = true := by
    have same : r.tgm.circuits = s.tgm.circuits := by rw [report_frame reported]
    rw [same]
    exact circuits_wf laws
  obtain ⟨t, released, dropped, ctb⟩ := release_tied wf tied stands rfl
  refine ⟨t, ?_, ?_⟩
  · simp only [State.reportRelease, reported, Option.bind_eq_bind, Option.bind_some]
    exact released
  · have same : t.call? = r.call? := funext fun other => by rw [State.call?, ctb]; rfl
    rw [same]
    exact dropped

/-! ### Putting and removing a call -/

theorem call_eraseCall {s : State} (wf : s.ctb.wf = true) (tag : Nat) : (s.eraseCall tag).call? = dropCall s.call? tag := by
  funext other
  by_cases same : other = tag
  · subst same
    rw [dropCall_self]
    exact Table.get?_erase_self s.ctb wf other
  · rw [dropCall_ne same]
    exact State.call_eraseCall_ne s tag other same

theorem call_putCall_eq (s : State) (tag : Nat) (call : Call) : (s.putCall tag call).call? = addCall s.call? tag call :=
  funext fun other => State.call_putCall s tag other call

theorem ctb_wf {s t : State} (laws : RecordLaws s) (h : Writes s t) : t.ctb.wf = true := by
  obtain ⟨_, _, _, _, calls, _⟩ := canonical_kept.writes h laws.1
  exact calls

/-- The removal of a call that has no circuit. -/
theorem recordLaws_eraseCall {s t : State} (laws : RecordLaws s) (h : Writes s t) {tag : Nat}
    (k : Tied t (dropCall t.call? tag)) : RecordLaws (t.eraseCall tag) :=
  recordLaws_of_tied laws (h.trans (Write.eraseCall t tag).writes) (k.of_same rfl rfl rfl) fun _ => by
    rw [call_eraseCall (ctb_wf laws h)]

/-- A live call is written anew, with its circuit, its group and what else it relies on. -/
theorem Tied.putCall {s : State} {calls : Nat → Option Call} (k : Tied s calls) {tag : Nat} {old new : Call}
    (live : calls tag = some old) (timers : new.timersAgree) (circuit : new.circuit = old.circuit) (group : new.group = old.group)
    (plan : new.plan = old.plan) (incoming : new.incoming = old.incoming) (cls : new.tariffClass = old.tariffClass)
    (probe : new.probe = old.probe) : Tied s (addCall calls tag new) := by
  have stays : ∀ {other c}, calls other = some c →
      ∃ d, addCall calls tag new other = some d ∧ d.circuit = c.circuit ∧ d.group = c.group ∧ d.probe = c.probe := by
    intro other c held
    by_cases same : other = tag
    · subst same
      rw [live] at held
      cases held
      exact ⟨new, addCall_self _ _ _, circuit, group, probe⟩
    · exact ⟨c, by rw [addCall_ne same]; exact held, rfl, rfl, rfl⟩
  refine ⟨k.toFramed, fun other c held => ?_, fun i c other stands busy => ?_, fun g grp other held named => ?_⟩
  · by_cases same : other = tag
    · subst same
      rw [addCall_self] at held
      cases held
      have tied := k.tied other old live
      refine ⟨tied.live, timers, by rw [plan]; exact tied.plan, by rw [incoming]; exact tied.incoming, ?_, ?_⟩
      · rw [group, cls, probe]; exact tied.group
      · rw [circuit, group]; exact tied.circuit
    · rw [addCall_ne same] at held
      exact k.tied other c held
  · obtain ⟨call, held, here⟩ := k.busy i c other stands busy
    obtain ⟨d, stands', circuit', _⟩ := stays held
    exact ⟨d, stands', circuit'.trans here⟩
  · obtain ⟨⟨c, stood, owner, flag⟩, trial⟩ := k.probes g grp other held named
    obtain ⟨d, stands', _, group', probe'⟩ := stays stood
    exact ⟨⟨d, stands', group'.trans owner, probe'.trans flag⟩, trial⟩

/-- The laws after the writing of a call. -/
theorem recordLaws_putCall {s t : State} (laws : RecordLaws s) {tag : Nat} {call : Call} (h : Writes s (t.putCall tag call))
    (k : Tied t (addCall t.call? tag call)) : RecordLaws (t.putCall tag call) :=
  recordLaws_of_tied laws h (k.of_same rfl rfl rfl) fun _ => by rw [call_putCall_eq]

/-! ### The candidate test and the search -/

theorem presentRate_isSome {s : State} (k : Framed s) {g : Nat} {grp : Group} (held : s.group? g = some grp) :
    ∃ rate, s.presentRate grp = some rate := by
  obtain ⟨account, tariff⟩ := k.names g grp held
  obtain ⟨a, account⟩ := Option.isSome_iff_exists.mp account
  obtain ⟨t, tariff⟩ := Option.isSome_iff_exists.mp tariff
  exact ⟨_, by simp only [State.presentRate, account, tariff, Option.bind_eq_bind, Option.bind_some, Option.pure_def]; rfl⟩

/-- A candidate found usable: the six conditions, and what the grant takes from the test (R61 to R65). -/
theorem testCandidate_eq_usable {s : State} {ceiling : Option Nat} {cls : CallClass} {number : Digits} {position g : Nat}
    {cand : Candidate} (h : s.testCandidate ceiling cls number position g = some (.usable cand)) :
    ∃ grp rate, s.group? g = some grp ∧ grp.serviceOpen cls = true ∧ grp.idleCount ≠ 0 ∧
      grp.alternateOpen cls position = true ∧ s.presentRate grp = some rate ∧ underCeiling ceiling cls rate = true ∧
      acceptable (grp.config.treat number) = true ∧
      cand = { position := position, group := g, multiplier := grp.multiplier, rate := rate,
               outgoing := grp.config.treat number, asProbe := grp.takesProbe cls } := by
  rw [State.testCandidate] at h
  split at h
  · cases h
  next grp held =>
    split at h
    · cases h
    next service =>
      split at h
      · cases h
      next idle =>
        split at h
        · cases h
        next alternate =>
          obtain ⟨rate, priced, h⟩ := Option.map_eq_some_iff.mp h
          rw [Group.testPriced] at h
          split at h
          · cases h
          next ceiling =>
            split at h
            · cases h
            next digits =>
              cases h
              simp only [Bool.not_eq_true', Bool.not_eq_false] at service alternate ceiling digits
              exact ⟨grp, rate, held, service, idle, alternate, priced, ceiling, digits, rfl⟩

theorem testCandidate_isSome {s : State} (k : Framed s) (ceiling : Option Nat) (cls : CallClass) (number : Digits)
    (position g : Nat) : ∃ r, s.testCandidate ceiling cls number position g = some r := by
  rw [State.testCandidate]
  split
  · exact ⟨_, rfl⟩
  next grp held =>
    (repeat' split) <;> try exact ⟨_, rfl⟩
    obtain ⟨rate, priced⟩ := presentRate_isSome k held
    exact ⟨_, by rw [priced]; rfl⟩

/-- A search that takes a candidate found it usable in the state that it leaves (R67). -/
theorem search_taken {plan : Plan} {cls : CallClass} {number : Digits} {order : List Nat} {seen : List Cause} {s t : State}
    {cand : Candidate} (h : search plan cls number order seen s = some (t, .taken cand)) :
    ∃ position g, position ∈ order ∧ plan.choices[position - 1]? = some g ∧
      t.testCandidate plan.ceiling cls number position g = some (.usable cand) := by
  induction order generalizing seen s with
  | nil => cases h
  | cons position rest ih =>
    have later : ∀ {seen s}, search plan cls number rest seen s = some (t, .taken cand) →
        ∃ p g, p ∈ position :: rest ∧ plan.choices[p - 1]? = some g ∧
          t.testCandidate plan.ceiling cls number p g = some (.usable cand) := fun h => by
      obtain ⟨p, g, there, choice, usable⟩ := ih h
      exact ⟨p, g, List.mem_cons_of_mem _ there, choice, usable⟩
    rw [search] at h
    split at h
    · exact later h
    next g choice =>
      split at h
      · cases h
      next c usable =>
        cases h
        exact ⟨position, g, List.mem_cons_self, choice, usable⟩
      next c skipped => exact later h

/-- Where every group names configured records, a search ends (R67). -/
theorem search_isSome {s : State} {calls : Nat → Option Call} (k : Tied s calls) (plan : Plan) (cls : CallClass) (number : Digits)
    (order : List Nat) (seen : List Cause) : ∃ r, search plan cls number order seen s = some r := by
  induction order generalizing seen s with
  | nil => exact ⟨_, rfl⟩
  | cons position rest ih =>
    rw [search]
    split
    · exact ih k seen
    next g choice =>
      obtain ⟨tested, result⟩ := testCandidate_isSome k.toFramed plan.ceiling cls number position g
      cases tested with
      | usable c => exact ⟨_, by rw [result]⟩
      | skipped c =>
        rw [result]
        exact ih (k.relied (relied_gentles (gentles_skip s g c))) _

/-! ### The grant -/

theorem mem_idleCircuits {s : State} (wf : s.tgm.circuits.wf = true) (g i : Nat) :
    i ∈ s.idleCircuits g ↔ ∃ c, s.circuit? i = some c ∧ c.owner = g ∧ c.state = .idle := by
  have idle : ∀ c : CircuitState, c.isIdle = true ↔ c = .idle := fun c => by cases c <;> simp [CircuitState.isIdle]
  simp only [State.idleCircuits, List.mem_map, List.mem_filter, Bool.and_eq_true, decide_eq_true_eq, idle]
  constructor
  · rintro ⟨e, ⟨there, owner, state⟩, rfl⟩
    exact ⟨e.2, Table.get?_of_mem _ wf there, owner, state⟩
  · rintro ⟨c, stands, owner, state⟩
    exact ⟨(i, c), ⟨Table.mem_of_get? _ stands, owner, state⟩, rfl⟩

theorem length_idleCircuits (s : State) (g : Nat) : (s.idleCircuits g).length = s.idleCircuitCount g :=
  List.length_map _

/-- The hunt chooses one of the circuits that it is given (R27). -/
theorem mem_of_huntAmong {order : HuntOrder} {rotate i : Nat} {idle : List Nat} (h : huntAmong order rotate idle = some i) :
    i ∈ idle := by
  cases order with
  | ascending => exact List.mem_of_head? h
  | descending => exact List.mem_of_getLast? h
  | rotating =>
    have there := List.mem_of_head? h
    rw [List.mem_append, List.mem_filter, List.mem_filter] at there
    rcases there with ⟨there, _⟩ | ⟨there, _⟩ <;> exact there

/-- The hunt fails only when it is given none (R27). -/
theorem huntAmong_isSome (order : HuntOrder) (rotate : Nat) {idle : List Nat} (some' : idle ≠ []) :
    ∃ i, huntAmong order rotate idle = some i := by
  rw [← Option.isSome_iff_exists]
  cases order with
  | ascending => simpa [huntAmong] using some'
  | descending => simpa [huntAmong] using some'
  | rotating =>
    rw [huntAmong, List.isSome_head?]
    simp only [ne_eq, List.append_eq_nil_iff, List.filter_eq_nil_iff, decide_eq_true_eq, not_and]
    intro below above
    obtain ⟨i, there⟩ := List.exists_mem_of_ne_nil idle some'
    exact above i there (Nat.le_of_not_lt (below i there))

/-- What a call written at a grant holds, besides its circuit and its group (R71, R90). -/
structure Call.FitsGrant (call : Call) (s : State) (cand : Candidate) (grp : Group) (i : Nat) : Prop where
  timers : call.timersAgree
  plan : (s.plan? call.plan).isSome = true
  incoming : (s.account? call.incoming).isSome = true
  circuit : call.circuit = i
  group : call.group = cand.group
  cls : call.tariffClass = grp.config.tariffClass
  flag : call.probe = cand.asProbe

/-- A usable candidate has an IDLE circuit, and the grant seizes one for a call that was not among the calls (R68, R69). -/
theorem grant_tied {s : State} (wf : s.tgm.circuits.wf = true) {calls : Nat → Option Call} (k : Tied s calls) {tag : Nat}
    (p : Nat) {ceiling : Option Nat} {cls : CallClass} {number : Digits} {position g : Nat} {cand : Candidate}
    (usable : s.testCandidate ceiling cls number position g = some (.usable cand)) (fresh : calls tag = none) (live : tag ≠ 0) :
    ∃ grp t i, s.group? cand.group = some grp ∧ s.grant tag p cand = some (t, i) ∧
      ∀ call : Call, call.FitsGrant s cand grp i → Tied t (addCall calls tag call) := by
  obtain ⟨grp, rate, held, service, idle, -, -, -, -, made⟩ := testCandidate_eq_usable usable
  have group : cand.group = g := by rw [made]
  have trial : cand.asProbe = true → grp.probe = none ∧ (grp.service = .reopenFirst ∨ grp.service = .reopenSecond) := by
    rw [made]
    intro probe
    simp only [Group.takesProbe, Bool.and_eq_true, Bool.or_eq_true, decide_eq_true_eq, Option.isNone_iff_eq_none] at probe
    exact ⟨probe.1.2, probe.1.1⟩
  have free : s.idleCircuits g ≠ [] := by
    intro none
    have count := length_idleCircuits s g
    rw [none, ← k.idle g grp held] at count
    exact idle count.symm
  obtain ⟨i, hunted⟩ := huntAmong_isSome grp.config.hunt grp.rotatePosition free
  obtain ⟨old, stands, owner, state⟩ := (mem_idleCircuits wf g i).mp (mem_of_huntAmong hunted)
  subst owner
  refine ⟨grp, (s.seize old.owner i tag (grp.hunted i tag cand.asProbe)).grantSticky p cand.position, i,
    by rw [group]; exact held, ?_, ?_⟩
  · simp only [State.grant, group, held, Option.bind_eq_bind, Option.bind_some, hunted, Option.pure_def]
  · intro call fits
    have counted : 0 < grp.idleCount := Nat.pos_of_ne_zero idle
    let s1 := s.putCircuit i { owner := old.owner, state := .busy tag, blockPending := false }
    let after := (grp.hunted i tag cand.asProbe).loseIdle.countSeizure (s1.busyCount old.owner)
    have e : CircuitEdit s (s1.putGroup old.owner after) i old
        { owner := old.owner, state := .busy tag, blockPending := false } grp after := by
      refine ⟨rfl, rfl, rfl, stands, rfl, held, State.group_putGroup_self _ _ _, fun h ne => State.group_putGroup_ne _ _ _ h ne,
        rfl, ?_⟩
      have one : old.idles old.owner = 1 := by simp [Circuit.idles, state, CircuitState.isIdle]
      have none : ({ owner := old.owner, state := .busy tag, blockPending := false } : Circuit).idles old.owner = 0 := by
        simp [Circuit.idles, CircuitState.isIdle]
      rw [one, none]
      exact Nat.sub_add_cancel counted
    have tied := e.seized wf (asProbe := cand.asProbe) state rfl rfl rfl trial fresh live fits.timers fits.plan fits.incoming
      fits.circuit (fits.group.trans group) fits.cls.symm fits.flag k
    exact (tied.relied (relied_gentles (gentles_raiseTest _ _))).relied (relied_gentles (gentles_grantSticky _ _ _))

end Sys2Proof.Machine
end

section
/-! PROOFS. While the laws between the records hold (R16, R17, R18, R25, R77, R78, R102, R126), the requests and the expiries of calls
find every record they read, and they leave the laws standing. -/

namespace Sys2Proof.Machine

/-! ### Accrual -/

theorem onBank_isSome {s : State} {k : Nat} (f : Bank → Bank) (held : (s.account? k).isSome = true) :
    ∃ t, s.onBank k f = some t ∧ ∀ j, (s.account? j).isSome = true → (t.account? j).isSome = true := by
  obtain ⟨a, held⟩ := Option.isSome_iff_exists.mp held
  refine ⟨s.putAccount k (a.onRunning f), ?_, fun j stands => isSome_put s.chu.accounts k (a.onRunning f) stands⟩
  simp only [State.onBank, held, Option.bind_eq_bind, Option.bind_some, Option.pure_def]

/-- A step accrues where both carriers have an account (R137). -/
theorem accrueStep_isSome {s : State} {outgoing incoming : Nat} (price multiplier : Nat)
    (out : (s.account? outgoing).isSome = true) (inc : (s.account? incoming).isSome = true) :
    ∃ t c, s.accrueStep outgoing incoming price multiplier = some (t, c) := by
  obtain ⟨a, held⟩ := Option.isSome_iff_exists.mp out
  obtain ⟨s1, paid, keep⟩ := onBank_isSome
    (fun b => (b.addPayable (stepCharge price multiplier (a.config.factor a.running.steps))).addStep) out
  obtain ⟨i, stands⟩ := Option.isSome_iff_exists.mp (keep incoming inc)
  obtain ⟨s2, credited, -⟩ := onBank_isSome
    (fun b => b.addReceivable (stepCharge price multiplier (a.config.factor a.running.steps) + i.config.margin))
    (keep incoming inc)
  exact ⟨s2, _, by simp only [State.accrueStep, held, paid, stands, credited, Option.bind_eq_bind, Option.bind_some, Option.pure_def]; rfl⟩

/-- An answer accrues where both carriers have an account (R136). -/
theorem accrueAnswer_isSome {s : State} {outgoing incoming : Nat} (v : TariffValues) (multiplier : Nat)
    (out : (s.account? outgoing).isSome = true) (inc : (s.account? incoming).isSome = true) :
    ∃ t c, s.accrueAnswer outgoing incoming v multiplier = some (t, c) := by
  obtain ⟨s1, setupPaid, keep1⟩ := onBank_isSome (fun b => b.addPayable (setupCharge v.setup multiplier)) out
  obtain ⟨s2, setupCredited, keep2⟩ :=
    onBank_isSome (fun b => b.addReceivable (setupCharge v.setup multiplier)) (keep1 incoming inc)
  obtain ⟨s3, handed, keep3⟩ := onBank_isSome Bank.addHandover (keep2 outgoing (keep1 outgoing out))
  obtain ⟨s4, passed, keep4⟩ := onBank_isSome Bank.addTransit (keep3 incoming (keep2 incoming (keep1 incoming inc)))
  have keep : ∀ j, (s.account? j).isSome = true → (s4.account? j).isSome = true := fun j h => keep4 j (keep3 j (keep2 j (keep1 j h)))
  obtain ⟨s5, c, stepped⟩ := accrueStep_isSome v.price multiplier (keep outgoing out) (keep incoming inc)
  exact ⟨s5, _, by
    simp only [State.accrueAnswer, setupPaid, setupCredited, handed, passed, stepped, Option.bind_eq_bind, Option.bind_some,
      Option.pure_def]
    rfl⟩

/-- What the charges of a live call read: its tariff, its outgoing carrier and both accounts (R126). -/
theorem charge_inputs {s : State} {calls : Nat → Option Call} (k : Tied s calls) {tag : Nat} {call : Call}
    (live : calls tag = some call) :
    ∃ t outgoing, s.tariff? call.tariffClass = some t ∧ s.outgoingOf call = some outgoing ∧
      (s.account? outgoing).isSome = true ∧ (s.account? call.incoming).isSome = true := by
  have tied := k.tied tag call live
  obtain ⟨grp, held, cls, -⟩ := tied.group
  obtain ⟨account, tariff⟩ := k.names call.group grp held
  rw [cls] at tariff
  obtain ⟨t, tariff⟩ := Option.isSome_iff_exists.mp tariff
  exact ⟨t, grp.config.carrier, tariff, by rw [State.outgoingOf, held]; rfl, account, tied.incoming⟩

/-! ### Progress and answer -/

/-- A state of a record agrees with its timers when they are as it says (R78). -/
theorem Call.timersAgree_of_seizing {c : Call} (seizing : c.state = .seizing) (supervised : c.supervision.isSome = true)
    (unmetered : c.chargeStep = none) : c.timersAgree := by
  simp [Call.timersAgree, seizing, supervised, unmetered]

theorem progressCall_answers {s : State} (laws : RecordLaws s) {tag : Nat} {call : Call} (live : s.call? tag = some call)
    (seizing : call.state.takesProgress = true) : ∃ a, s.progressCall tag call = some a ∧ RecordLaws a.1 := by
  have seizing : call.state = .seizing := by
    cases state : call.state with
    | seizing => rfl
    | alerting | answered => rw [state] at seizing; cases seizing
  have timers := ((tied_of_recordLaws laws).tied tag call live).timers
  obtain ⟨r, reported, tied, stands⟩ := report_tied (tied_of_recordLaws laws) live .progress
  have answered : s.progressCall tag call =
      some (accept (r.modifyCall tag fun c => { c with state := .alerting, supervision := none })
        (putNumber 4 tag ++ [CallState.alerting.code])) := by
    simp only [State.progressCall, reported, Option.bind_eq_bind, Option.bind_some, Option.pure_def]
  have writes := writes_progressCall answered
  refine ⟨_, answered, ?_⟩
  rw [accept, State.modifyCall_of_call stands] at writes ⊢
  refine recordLaws_putCall laws writes (tied.putCall stands ?_ rfl rfl rfl rfl rfl rfl)
  have unmetered : call.chargeStep.isSome = false := by
    rw [Bool.eq_false_iff]
    intro metered
    rw [timers.2.mp metered] at seizing
    cases seizing
  simp [Call.timersAgree, unmetered]

theorem answerCall_answers {s : State} (laws : RecordLaws s) {tag : Nat} {call : Call} (live : s.call? tag = some call) :
    ∃ a, s.answerCall tag call = some a ∧ RecordLaws a.1 := by
  obtain ⟨r, reported, tied, stands⟩ := report_tied (tied_of_recordLaws laws) live .answer
  obtain ⟨t, outgoing, tariff, carrier, out, inc⟩ := charge_inputs tied stands
  have carrier : r.outgoingOf call = some outgoing := carrier
  obtain ⟨u, amounts, accrued⟩ := accrueAnswer_isSome t.active call.multiplier out inc
  have relied := relied_gentles (gentles_accrueAnswer accrued)
  have calls : u.call? = r.call? := funext fun other => by rw [State.call?, relied.calls]; rfl
  have kept : u.call? tag = some { call with probe := false } := by rw [calls]; exact stands
  have answered : ∃ fields, s.answerCall tag call = some (u.putCall tag (({ call with probe := false } : Call).answeredWith
      u.tmb.clock (u.now + t.active.intervalMs) amounts), fields) := by
    simp only [State.answerCall, reported, tariff, carrier, accrued, kept, Option.bind_eq_bind, Option.bind_some,
      Option.pure_def]
    exact ⟨_, rfl⟩
  obtain ⟨fields, answered⟩ := answered
  refine ⟨_, answered, recordLaws_putCall laws (writes_answerCall answered) ?_⟩
  rw [calls]
  refine (tied.relied relied).putCall stands ?_ rfl rfl rfl rfl rfl rfl
  simp [Call.timersAgree, Call.answeredWith]

theorem chargeCall_answers {s : State} (laws : RecordLaws s) {tag : Nat} {call : Call} (live : s.call? tag = some call)
    (metered : call.state = .answered) : ∃ t, s.chargeCall tag call = some t ∧ RecordLaws t := by
  have tied := tied_of_recordLaws laws
  obtain ⟨t, outgoing, tariff, carrier, out, inc⟩ := charge_inputs tied live
  obtain ⟨u, amounts, accrued⟩ := accrueStep_isSome t.active.price call.multiplier out inc
  have relied := relied_gentles (gentles_accrueStep accrued)
  have calls : u.call? = s.call? := funext fun other => by rw [State.call?, relied.calls]; rfl
  have charged : s.chargeCall tag call = some (u.putCall tag (call.charged (u.now + t.active.intervalMs) amounts)) := by
    simp only [State.chargeCall, tariff, carrier, accrued, Option.bind_eq_bind, Option.bind_some, Option.pure_def]
  refine ⟨_, charged, recordLaws_putCall laws (writes_chargeCall charged) ?_⟩
  rw [calls]
  refine (tied.relied relied).putCall live ?_ rfl rfl rfl rfl rfl rfl
  have timers := (tied.tied tag call live).timers
  exact ⟨timers.1, by simp [Call.charged, metered]⟩

/-! ### The ending of a call -/

theorem clearCall_answers {s : State} (laws : RecordLaws s) {tag : Nat} {call : Call} (live : s.call? tag = some call) :
    ∃ a, s.clearCall tag call = some a ∧ RecordLaws a.1 := by
  obtain ⟨r, released, tied⟩ := reportRelease_tied laws live .clear
  have writes := writes_reportRelease released
  exact ⟨_, by simp only [State.clearCall, released, Option.bind_eq_bind, Option.bind_some, Option.pure_def]; rfl,
    recordLaws_eraseCall laws writes tied⟩

/-- Gentle writes between the release of a circuit and the removal of its call. -/
theorem Tied.dropped_gentles {s t : State} {tag : Nat} (k : Tied s (dropCall s.call? tag)) (h : Gentles s t) :
    Tied t (dropCall t.call? tag) := by
  have same : t.call? = s.call? := funext fun other => by rw [State.call?, (relied_gentles h).calls]; rfl
  rw [same]
  exact k.relied (relied_gentles h)

theorem superviseOut_answers {s : State} (laws : RecordLaws s) {tag : Nat} {call : Call} (live : s.call? tag = some call) :
    ∃ t, s.superviseOut tag call = some t ∧ RecordLaws t := by
  obtain ⟨r, released, tied⟩ := reportRelease_tied laws live .supervision
  have gentles := (gentles_advanceSticky r call.plan call.position).offer (.timeout tag call.group call.circuit)
  refine ⟨_, by simp only [State.superviseOut, released, Option.bind_eq_bind, Option.bind_some, Option.pure_def]; rfl, ?_⟩
  exact recordLaws_eraseCall laws ((writes_reportRelease released).trans (Gentles.writes gentles)) (tied.dropped_gentles gentles)

/-! ### The continuation of a call -/

theorem addCall_dropCall (calls : Nat → Option Call) (tag : Nat) (call : Call) :
    addCall (dropCall calls tag) tag call = addCall calls tag call := by
  funext other
  by_cases same : other = tag
  · subst same
    rw [addCall_self, addCall_self]
  · rw [addCall_ne same, dropCall_ne same, addCall_ne same]

theorem Call.timersAgree_regranted (call : Call) (i : Nat) (cand : Candidate) (grp : Group) (s : State) :
    (call.regranted i cand grp s).timersAgree := by
  simp [Call.timersAgree, Call.regranted]

/-- A call without a circuit goes on to a candidate found usable (R90). -/
theorem regrant_answers {s t : State} (laws : RecordLaws s) (h : Writes s t) {tag : Nat} (k : Tied t (dropCall t.call? tag))
    {call : Call} (plan : (t.plan? call.plan).isSome = true) (incoming : (t.account? call.incoming).isSome = true)
    (nonzero : tag ≠ 0) {live : Call} (stands : t.call? tag = some live) (totals : live.inRange → call.inRange)
    {ceiling : Option Nat} {cls : CallClass} {number : Digits} {position g : Nat} {cand : Candidate}
    (usable : t.testCandidate ceiling cls number position g = some (.usable cand)) :
    ∃ a, t.regrant tag call cand = some a ∧ RecordLaws a.1 := by
  have wf : t.tgm.circuits.wf = true := by
    obtain ⟨_, _, _, circuits, _⟩ := canonical_kept.writes h laws.1
    exact circuits
  obtain ⟨grp, u, i, held, granted, tied⟩ := grant_tied wf k call.plan usable (dropCall_self _ _) nonzero
  have answered : t.regrant tag call cand = some (u.putCall tag (call.regranted i cand grp u),
      Result.regrant.code :: (cand.grantFields i ++ putNumber 4 tag ++ putNumber 1 (call.attempts + 1))) := by
    simp only [State.regrant, held, granted, Option.bind_eq_bind, Option.bind_some, Option.pure_def]
  have calls : u.call? = t.call? := by rw [grant_frame granted]; rfl
  refine ⟨_, answered, recordLaws_putCall laws (h.trans (writes_regrant stands totals answered)) ?_⟩
  rw [calls, ← addCall_dropCall]
  exact tied _ ⟨call.timersAgree_regranted i cand grp u, plan, incoming, rfl, rfl, rfl, rfl⟩

theorem continueCall_answers {s t : State} (laws : RecordLaws s) (h : Writes s t) {tag : Nat} (k : Tied t (dropCall t.call? tag))
    {call : Call} (plan : (t.plan? call.plan).isSome = true) (incoming : (t.account? call.incoming).isSome = true)
    (nonzero : tag ≠ 0) {live : Call} (stands : t.call? tag = some live) (totals : live.inRange → call.inRange) (p : Plan) :
    ∃ a, t.continueCall tag call p = some a ∧ RecordLaws a.1 := by
  obtain ⟨⟨u, found⟩, searched⟩ := search_isSome k p call.callClass call.number (continuationOrder p call) []
  have gentles := gentles_search searched
  have relied := relied_gentles gentles
  have writes := h.trans gentles.writes
  have tied := k.dropped_gentles gentles
  have calls : u.call? tag = some live := by rw [State.call?, relied.calls]; exact stands
  cases found with
  | exhausted conditions =>
    refine ⟨_, by
      simp only [State.continueCall, searched, Option.bind_eq_bind, Option.bind_some, Option.pure_def]
      rfl, ?_⟩
    exact recordLaws_eraseCall laws writes tied
  | taken cand =>
    obtain ⟨position, g, -, -, usable⟩ := search_taken searched
    obtain ⟨a, answered, after⟩ := regrant_answers laws writes tied (relied.plans _ plan) (relied.accounts _ incoming) nonzero
      calls totals usable
    exact ⟨a, by simp only [State.continueCall, searched, Option.bind_eq_bind, Option.bind_some]; exact answered, after⟩

theorem reportRelease_frame {s t : State} {tag g i : Nat} {ev : CallEvent} (h : s.reportRelease tag g i ev = some t) :
    t.rsl = s.rsl ∧ t.chu = s.chu := by
  simp only [State.reportRelease, Option.bind_eq_bind, Option.bind_eq_some_iff] at h
  obtain ⟨r, reported, released⟩ := h
  rw [release_eq released, report_frame reported]
  exact ⟨rfl, rfl⟩

theorem failCall_answers {s : State} (laws : RecordLaws s) {tag : Nat} {call : Call} (live : s.call? tag = some call)
    (ev : CallEvent) (cause : Cause) (reroute : Bool) :
    ∃ a, s.failCall tag call ev cause reroute = some a ∧ RecordLaws a.1 := by
  obtain ⟨r, released, tied⟩ := reportRelease_tied laws live ev
  have before := (tied_of_recordLaws laws).tied tag call live
  have gentles := gentles_failSticky r call ev
  have relied := relied_gentles gentles
  have writes := (writes_reportRelease released).trans gentles.writes
  have dropped := tied.dropped_gentles gentles
  obtain ⟨rsl, chu⟩ := reportRelease_frame released
  have plan : ((r.failSticky call ev).plan? call.plan).isSome = true :=
    relied.plans _ (by rw [State.plan?, rsl]; exact before.plan)
  have incoming : ((r.failSticky call ev).account? call.incoming).isSome = true :=
    relied.accounts _ (by rw [State.account?, chu]; exact before.incoming)
  obtain ⟨p, held⟩ := Option.isSome_iff_exists.mp plan
  have unfolded : s.failCall tag call ev cause reroute =
      if continues p call ev reroute then (r.failSticky call ev).continueCall tag call p
      else some ((r.failSticky call ev).finalFail tag call cause) := by
    simp only [State.failCall, released, held, Option.bind_eq_bind, Option.bind_some, Option.pure_def]
  rw [unfolded]
  have stands : ∃ c, (r.failSticky call ev).call? tag = some c ∧ (c.inRange → call.inRange) := by
    have kept : (r.failSticky call ev).call? tag = r.call? tag := by rw [failSticky_eq]; rfl
    rw [kept]
    rcases reportRelease_call live released with same | cleared
    · exact ⟨_, same, id⟩
    · exact ⟨_, cleared, id⟩
  obtain ⟨c, stands, totals⟩ := stands
  split
  · exact continueCall_answers laws writes dropped plan incoming before.live stands totals p
  · exact ⟨_, rfl, recordLaws_eraseCall laws writes dropped⟩

/-! ### The requests -/

theorem withCall_answers {P : Answer → Prop} {body : List Byte} {s : State} {taken : CallState → Bool}
    {act : Nat → Call → Option Answer} (refused : ∀ fields, P (s, fields))
    (acts : ∀ tag call, s.call? tag = some call → taken call.state = true → ∃ a, act tag call = some a ∧ P a) :
    ∃ a, withCall body s taken act = some a ∧ P a := by
  rw [withCall]
  split
  · exact ⟨_, rfl, refused _⟩
  next tag rest read =>
    split
    · exact ⟨_, rfl, refused _⟩
    · split
      · exact ⟨_, rfl, refused _⟩
      next call live =>
        split
        next state => exact acts tag call live state
        next => exact ⟨_, rfl, refused _⟩

theorem handleProgress_answers {s : State} (laws : RecordLaws s) (body : List Byte) :
    ∃ a, handleProgress body s = some a ∧ RecordLaws a.1 :=
  withCall_answers (P := fun a => RecordLaws a.1) (fun _ => laws) fun _ _ live state => progressCall_answers laws live state

theorem handleAnswer_answers {s : State} (laws : RecordLaws s) (body : List Byte) :
    ∃ a, handleAnswer body s = some a ∧ RecordLaws a.1 :=
  withCall_answers (P := fun a => RecordLaws a.1) (fun _ => laws) fun _ _ live _ => answerCall_answers laws live

theorem handleClear_answers {s : State} (laws : RecordLaws s) (body : List Byte) :
    ∃ a, handleClear body s = some a ∧ RecordLaws a.1 :=
  withCall_answers (P := fun a => RecordLaws a.1) (fun _ => laws) fun _ _ live _ => clearCall_answers laws live

theorem handleFail_answers {s : State} (laws : RecordLaws s) (body : List Byte) :
    ∃ a, handleFail body s = some a ∧ RecordLaws a.1 := by
  rw [handleFail]
  split
  · exact ⟨_, rfl, laws⟩
  next tag causeByte flag read =>
    split
    · exact ⟨_, rfl, laws⟩
    next ev cause event =>
      split
      · exact ⟨_, rfl, laws⟩
      · split
        · exact ⟨_, rfl, laws⟩
        next call live =>
          split
          · exact failCall_answers laws live ev cause _
          · exact ⟨_, rfl, laws⟩

/-! ### The seek -/

theorem SeekFields.timersAgree_record (f : SeekFields) (cls : CallClass) (p i : Nat) (cand : Candidate) (grp : Group) (s : State) :
    (f.record cls p i cand grp s).timersAgree := by
  simp [Call.timersAgree, SeekFields.record]

/-- A new call is granted a candidate found usable (R68, R71). -/
theorem grantSeek_answers {s : State} (laws : RecordLaws s) {f : SeekFields} {c : CallClass} {p : Nat}
    (plan : (s.plan? p).isSome = true) (incoming : (s.account? f.incoming).isSome = true) (nonzero : f.tag ≠ 0)
    (fresh : s.call? f.tag = none) {ceiling : Option Nat} {cls : CallClass} {number : Digits} {position g : Nat}
    {cand : Candidate} (usable : s.testCandidate ceiling cls number position g = some (.usable cand)) :
    ∃ a, s.grantSeek f c p cand = some a ∧ RecordLaws a.1 := by
  obtain ⟨grp, u, i, held, granted, tied⟩ := grant_tied (circuits_wf laws) (tied_of_recordLaws laws) p usable fresh nonzero
  have answered : s.grantSeek f c p cand =
      some (u.putCall f.tag (f.record c p i cand grp u), Result.grant.code :: cand.grantFields i) := by
    simp only [State.grantSeek, held, granted, Option.bind_eq_bind, Option.bind_some, Option.pure_def]
  have calls : u.call? = s.call? := by rw [grant_frame granted]; rfl
  refine ⟨_, answered, recordLaws_putCall laws (writes_grantSeek answered) ?_⟩
  rw [calls]
  exact tied _ ⟨f.timersAgree_record c p i cand grp u, plan, incoming, rfl, rfl, rfl, rfl⟩

theorem searchSeek_answers {s : State} (laws : RecordLaws s) {f : SeekFields} {p : Nat} (configured : (s.plan? p).isSome = true)
    (incoming : (s.account? f.incoming).isSome = true) (nonzero : f.tag ≠ 0) (fresh : s.call? f.tag = none) (cls : CallClass)
    (plan : Plan) : ∃ a, s.searchSeek f cls p plan = some a ∧ RecordLaws a.1 := by
  obtain ⟨⟨t, found⟩, searched⟩ := search_isSome (tied_of_recordLaws laws) plan cls f.number (plan.order cls) []
  have gentles := gentles_search searched
  have relied := relied_gentles gentles
  have after := recordLaws_gentles gentles laws
  cases found with
  | exhausted conditions =>
    exact ⟨_, by simp only [State.searchSeek, searched, Option.bind_eq_bind, Option.bind_some, Option.pure_def]; rfl, after⟩
  | taken cand =>
    obtain ⟨position, g, -, -, usable⟩ := search_taken searched
    have stillFresh : t.call? f.tag = none := by rw [State.call?, relied.calls]; exact fresh
    obtain ⟨a, answered, last⟩ := grantSeek_answers (c := cls) after (relied.plans p configured) (relied.accounts _ incoming)
      nonzero stillFresh usable
    exact ⟨a, by simp only [State.searchSeek, searched, Option.bind_eq_bind, Option.bind_some]; exact answered, last⟩

theorem longestMatch_mem {number : Digits} {t : List PrefixEntry} {e : PrefixEntry} (h : longestMatch number t = some e) : e ∈ t := by
  induction t generalizing e with
  | nil => cases h
  | cons d rest ih =>
    rw [longestMatch] at h
    split at h
    · split at h
      · cases h; exact List.mem_cons_self
      · cases h
    next b found =>
      split at h
      · cases h; exact List.mem_cons_self
      · cases h; exact List.mem_cons_of_mem _ (ih found)

theorem analyseSeek_answers {s : State} (laws : RecordLaws s) {f : SeekFields} (incoming : (s.account? f.incoming).isSome = true)
    (nonzero : f.tag ≠ 0) (fresh : s.call? f.tag = none) (cls : CallClass) :
    ∃ a, s.analyseSeek f cls = some a ∧ RecordLaws a.1 := by
  rw [State.analyseSeek]
  split
  · exact ⟨_, rfl, laws⟩
  next e found =>
    have configured := (tied_of_recordLaws laws).prefixes e (longestMatch_mem found)
    obtain ⟨plan, held⟩ := Option.isSome_iff_exists.mp configured
    simp only [held, Option.bind_eq_bind, Option.bind_some, Option.pure_def]
    have gentles := gentles_admission s f.number e.plan
    have after := recordLaws_gentles gentles laws
    split
    · exact searchSeek_answers laws configured incoming nonzero fresh cls plan
    · split
      · exact searchSeek_answers after configured incoming nonzero fresh cls plan
      · exact ⟨_, rfl, after⟩

theorem handleSeek_answers {s : State} (laws : RecordLaws s) (body : List Byte) :
    ∃ a, handleSeek body s = some a ∧ RecordLaws a.1 := by
  rw [handleSeek]
  split
  · exact ⟨_, rfl, laws⟩
  next f read =>
    split
    · exact ⟨_, rfl, laws⟩
    next valid =>
      split
      · exact ⟨_, rfl, laws⟩
      next cls known =>
        split
        · exact ⟨_, rfl, laws⟩
        · split
          · exact ⟨_, rfl, laws⟩
          next account =>
            split
            · exact ⟨_, rfl, laws⟩
            next unused =>
              have nonzero : f.tag ≠ 0 := by
                intro zero
                simp [zero] at valid
              have fresh : s.call? f.tag = none := by simpa using unused
              have incoming : (s.account? f.incoming).isSome = true := by
                rwa [Bool.not_eq_true, Option.isNone_eq_false_iff] at account
              exact analyseSeek_answers laws incoming nonzero fresh cls

/-! ### Every move of a block -/

/-- What an answer is, the laws hold of it. -/
theorem laws_of_answers {r : Option Answer} {a : Answer} (answers : ∃ b, r = some b ∧ RecordLaws b.1) (h : r = some a) :
    RecordLaws a.1 := by
  obtain ⟨b, answered, laws⟩ := answers
  rw [h, Option.some.injEq] at answered
  rw [answered]
  exact laws

theorem occurs_answers {r : Option State} {P : State → Prop} (h : ∃ t, r = some t ∧ P t) :
    ∃ t, occurs r = .next t ∧ P t := by
  obtain ⟨t, rfl, after⟩ := h
  exact ⟨t, rfl, after⟩

theorem seizureSupervisionExpiry_answers {s : State} (laws : RecordLaws s) (tag : Nat) :
    ∃ t, exec (.seizureSupervisionExpiry tag) s = .next t ∧ RecordLaws t := by
  have unfolded : exec (.seizureSupervisionExpiry tag) s = execSeizureSupervisionExpiry tag s := rfl
  rw [unfolded, execSeizureSupervisionExpiry]
  split
  · exact ⟨s, rfl, laws⟩
  next call live =>
    split
    · exact occurs_answers (superviseOut_answers laws live)
    · exact ⟨s, rfl, laws⟩

theorem chargeStepExpiry_answers {s : State} (laws : RecordLaws s) (tag : Nat) :
    ∃ t, exec (.chargeStepExpiry tag) s = .next t ∧ RecordLaws t := by
  have unfolded : exec (.chargeStepExpiry tag) s = execChargeStepExpiry tag s := rfl
  rw [unfolded, execChargeStepExpiry]
  split
  · exact ⟨s, rfl, laws⟩
  next call live =>
    split
    next due =>
      rw [Bool.and_eq_true, decide_eq_true_eq] at due
      exact occurs_answers (chargeCall_answers laws live due.1)
    · exact ⟨s, rfl, laws⟩

theorem laws_of_next {r : Host.Outcome State Fault Refusal} {t : State} (answers : ∃ u, r = .next u ∧ RecordLaws u)
    (h : r = .next t) : RecordLaws t := by
  obtain ⟨u, next, laws⟩ := answers
  rw [h] at next
  cases next
  exact laws

theorem BlockMove.recordLaws {s t : State} (h : BlockMove s t) (laws : RecordLaws s) : RecordLaws t := by
  cases h with
  | gentles h => exact recordLaws_gentles h laws
  | setPrefix body => exact recordLaws_setPrefix laws body
  | delPrefix body => exact recordLaws_delPrefix laws body
  | setGroup body => exact recordLaws_setGroup laws body
  | delGroup body => exact recordLaws_delGroup laws body
  | delCarrier body => exact recordLaws_delCarrier laws body
  | service body => exact recordLaws_service laws body
  | block body => exact recordLaws_block laws body
  | unblock body => exact recordLaws_unblock laws body
  | seek h => exact laws_of_answers (handleSeek_answers laws _) h
  | progress h => exact laws_of_answers (handleProgress_answers laws _) h
  | answer h => exact laws_of_answers (handleAnswer_answers laws _) h
  | fail h => exact laws_of_answers (handleFail_answers laws _) h
  | clear h => exact laws_of_answers (handleClear_answers laws _) h
  | guardEnds h => exact recordLaws_guardExpiry laws h
  | tsEnds h => exact recordLaws_tsExpiry laws h
  | tqEnds h => exact recordLaws_tqExpiry laws h
  | twEnds h => exact recordLaws_twExpiry laws h
  | supervisionEnds h => exact laws_of_next (seizureSupervisionExpiry_answers laws _) h
  | chargeStep h => exact laws_of_next (chargeStepExpiry_answers laws _) h

end Sys2Proof.Machine
end

section
/-! PROOFS. The laws between the records and the strain law are kept by every step, and while the former hold no step stops the part
(log 23). -/

namespace Sys2Proof.Machine

/-! ### The laws between the records -/

theorem recordLaws_cleared (s : State) (rate : LineRate) (phase : Phase) : RecordLaws (s.cleared rate phase) := by
  have groups : ∀ g, (s.cleared rate phase).group? g = none := fun _ => rfl
  have circuits : ∀ i, (s.cleared rate phase).circuit? i = none := fun _ => rfl
  have calls : ∀ tag, (s.cleared rate phase).call? tag = none := fun _ => rfl
  refine (recordLaws_iff _).mpr ⟨canonical_kept.cleared s rate phase, ⟨?_, ?_, ?_, ?_, ?_⟩, ?_, ?_, ?_⟩
  · exact fun e he => absurd he List.not_mem_nil
  all_goals simp [groups, circuits, calls]

theorem recordLaws_kept : KeptByMoves RecordLaws where
  lif _ _ laws := laws
  queue _ _ _ laws := laws
  time _ _ _ laws := laws
  move _ _ h laws := h.recordLaws laws
  freed _ laws := recordLaws_freeCalls laws
  cleared := recordLaws_cleared

/-- Settles O59: every move of a block keeps the laws, each held against the records that it writes; nothing else writes those. -/
theorem stepKeepsRecordLaws : Obligations.StepKeepsRecordLaws := by
  unfold Obligations.StepKeepsRecordLaws
  exact fun s t laws h => recordLaws_kept.step h laws

/-! ### The strain law -/

theorem strainLaw_gentle {s t : State} (h : Gentle s t) (law : StrainLaw s) : StrainLaw t := by
  cases h with
  | group g before after held relied strain =>
    intro e he
    rcases Table.mem_put _ he with rfl | he
    · exact strain (strainLaw_of_group held law)
    · exact law e he
  | groups f relied strain =>
    intro e he
    rw [State.setGroups_tgm, Table.mapValues_eq_map] at he
    obtain ⟨d, hd, rfl⟩ := List.mem_map.mp he
    exact strain _ _ (law d hd)
  | clock v trigger range =>
    obtain ⟨_, _, _, same, _⟩ := clockTo_frame s v trigger
    rw [same]
    exact law
  | offer | plan | account | accounts | tariff | period | gaps | autoInterval | clockCount => exact law

theorem strainLaw_write {s t : State} (h : Write s t) (law : StrainLaw s) : StrainLaw t := by
  cases h with
  | gentle h => exact strainLaw_gentle h law
  | group g grp strain =>
    intro e he
    rcases Table.mem_put _ he with rfl | he
    · exact strain law
    · exact law e he
  | eraseGroup g => exact fun e he => law e (Table.mem_erase _ he)
  | entry | eraseEntry | circuits | call | eraseCall | eraseAccount => exact law

/-- An IDLE circuit is not touched by the freeing (R97). -/
theorem freed_of_idle {c : Circuit} (h : c.state.isIdle = true) : c.freed = c := by
  rw [Circuit.freed]
  split
  next busy => rw [busy] at h; cases h
  next guarding => rw [guarding] at h; cases h
  · rfl
  · rfl

/-- The freeing makes no idle count smaller (R97, R180). -/
theorem idleCircuitCount_freeCalls (s : State) (g : Nat) : s.idleCircuitCount g ≤ s.freeCalls.idleCircuitCount g := by
  have freed : s.freeCalls.tgm.circuits = s.tgm.circuits.map fun e => (e.1, e.2.freed) := Table.mapValues_eq_map _ _
  rw [State.idleCircuitCount, State.idleCircuitCount, State.countCircuits, State.countCircuits, freed, List.filter_map,
    List.length_map, ← List.countP_eq_length_filter, ← List.countP_eq_length_filter]
  refine List.countP_mono_left fun e _ idle => ?_
  rw [Bool.and_eq_true] at idle
  rw [Function.comp_apply, freed_of_idle idle.2, idle.1, idle.2]
  rfl

/-- A group that has more IDLE circuits than before keeps the law at its level (R39). -/
theorem Group.strainLaw.recounted {grp : Group} (h : grp.strainLaw) {idle : Nat} (more : grp.idleCount ≤ idle) :
    (grp.recounted idle).strainLaw := by
  obtain ⟨level, top, window, ordered⟩ := h
  exact ⟨Nat.le_trans (grp.config.raiseLevel_antitone more) level, top, Nat.le_trans window more, ordered⟩

theorem strainLaw_freeCalls {s : State} (laws : RecordLaws s) (law : StrainLaw s) : StrainLaw s.freeCalls := by
  intro e he
  have groups : s.freeCalls.tgm.groups =
      s.tgm.groups.mapValues fun g grp => grp.recounted (s.freeCalls.idleCircuitCount g) := rfl
  rw [groups, Table.mapValues_eq_map] at he
  obtain ⟨d, hd, rfl⟩ := List.mem_map.mp he
  refine Group.strainLaw.recounted (law d hd) ?_
  rw [(tied_of_recordLaws laws).idle d.1 d.2 (Table.get?_of_mem _ (groups_wf laws) hd)]
  exact idleCircuitCount_freeCalls s d.1

/-- The recount of a RESTART needs the idle counts to be those of the circuits, so the two laws are kept together. -/
theorem strainLaw_kept : KeptByMoves fun s => RecordLaws s ∧ StrainLaw s where
  lif _ _ laws := laws
  queue _ _ _ laws := laws
  time _ _ _ laws := laws
  move _ _ h laws := ⟨h.recordLaws laws.1, h.writes.keeps (fun _ _ => strainLaw_write) laws.2⟩
  freed _ laws := ⟨recordLaws_freeCalls laws.1, strainLaw_freeCalls laws.1 laws.2⟩
  cleared s rate phase := ⟨recordLaws_cleared s rate phase, fun _ he => absurd he List.not_mem_nil⟩

/-- Settles O56: every write leaves a group at or above f of its idle count, and the recount of a RESTART only raises that count. -/
theorem stepKeepsStrainLaw : Obligations.StepKeepsStrainLaw := by
  unfold Obligations.StepKeepsStrainLaw
  exact fun s t law laws h => (strainLaw_kept.step h ⟨laws, law⟩).2

/-! ### The part never stops -/

theorem serve_next (kind number : Byte) (body : List Byte) (handle : List Byte → State → Answer) (s : State) :
    ∃ t, serve kind number body handle s = .next t := by
  rw [serve]
  split <;> exact ⟨_, rfl⟩

/-- A request whose handler finds its records is served (R16, R77, R126). -/
theorem serveLaw_next {s : State} {kind number : Byte} {body : List Byte} {handle : List Byte → State → Option Answer}
    (laws : RecordLaws s) (answers : ∀ {u : State}, RecordLaws u → ∀ body, ∃ a, handle body u = some a ∧ RecordLaws a.1) :
    ∃ t, serveLaw kind number body handle s = .next t := by
  have laws : RecordLaws s.popRequest := laws
  obtain ⟨a, answered, -⟩ := answers laws body
  rw [serveLaw]
  split
  · exact ⟨_, by rw [answered]⟩
  · exact ⟨_, rfl⟩

/-- No command stops the part while the laws between the records hold (log 23). -/
theorem exec_next {s : State} (laws : RecordLaws s) (i : Instr) : ∃ t, exec i s = .next t := by
  cases i with
  | seek number body => exact serveLaw_next (body := body) laws handleSeek_answers
  | progress number body => exact serveLaw_next (body := body) laws handleProgress_answers
  | answer number body => exact serveLaw_next (body := body) laws handleAnswer_answers
  | fail number body => exact serveLaw_next (body := body) laws handleFail_answers
  | clear number body => exact serveLaw_next (body := body) laws handleClear_answers
  | seizureSupervisionExpiry tag =>
    obtain ⟨t, next, -⟩ := seizureSupervisionExpiry_answers laws tag
    exact ⟨t, next⟩
  | chargeStepExpiry tag =>
    obtain ⟨t, next, -⟩ := chargeStepExpiry_answers laws tag
    exact ⟨t, next⟩
  | setPrefix | delPrefix | setPlan | setGroup | delGroup | setCarrier | delCarrier | loadTariff | scheduleTariff | cancelTariff
  | setGap | delGap | setAutogap | setClock | setPeriod | service | block | unblock | readPrefix | readPlan | readGroup
  | readCircuit | readCall | readCarrier | readTariff | readGaps | collect | close => exact serve_next _ _ _ _ s
  | status number body =>
    simp only [exec, execStatus]
    split <;> exact ⟨_, rfl⟩
  | restart number body =>
    simp only [exec, execRestart]
    (repeat' split) <;> exact ⟨_, rfl⟩
  | unknownKind kind number body =>
    simp only [exec, execUnknownKind]
    split
    · exact ⟨_, rfl⟩
    · exact serve_next _ _ _ _ s
  | frameReceived | powerOn | resetPinAssert | startCodeReceived | lengthOutOfRange | restartCompletion => exact ⟨_, rfl⟩
  | interCharacterTimeout =>
    simp only [exec, execInterCharacterTimeout]
    (repeat' split) <;> exact ⟨_, rfl⟩
  | brokenCharacter =>
    simp only [exec, execBrokenCharacter]
    split <;> exact ⟨_, rfl⟩
  | outlineFrameSend =>
    simp only [exec, execOutlineFrameSend]
    split <;> exact ⟨_, rfl⟩
  | linkResetBegin =>
    simp only [exec, execLinkResetBegin]
    split <;> exact ⟨_, rfl⟩
  | linkResetEnd =>
    simp only [exec, execLinkResetEnd]
    (repeat' split) <;> exact ⟨_, rfl⟩
  | resetPinRelease a b =>
    simp only [exec, execResetPinRelease]
    split <;> exact ⟨_, rfl⟩
  | initComplete =>
    simp only [exec, execInitComplete]
    split <;> exact ⟨_, rfl⟩
  | guardExpiry i =>
    simp only [exec, execGuardExpiry]
    (repeat' split) <;> exact ⟨_, rfl⟩
  | windowExpiry g =>
    simp only [exec, execWindowExpiry]
    (repeat' split) <;> exact ⟨_, rfl⟩
  | escalationExpiry g =>
    simp only [exec, execEscalationExpiry]
    (repeat' split) <;> exact ⟨_, rfl⟩
  | tsExpiry g =>
    simp only [exec, execTsExpiry]
    (repeat' split) <;> exact ⟨_, rfl⟩
  | tqExpiry g =>
    simp only [exec, execTqExpiry]
    (repeat' split) <;> exact ⟨_, rfl⟩
  | twExpiry g =>
    simp only [exec, execTwExpiry]
    (repeat' split) <;> exact ⟨_, rfl⟩
  | gapDurationExpiry i =>
    simp only [exec, execGapDurationExpiry]
    (repeat' split) <;> exact ⟨_, rfl⟩
  | periodTimerExpiry =>
    simp only [exec, execPeriodTimerExpiry]
    (repeat' split) <;> exact ⟨_, rfl⟩
  | partClockRise =>
    simp only [exec, execPartClockRise]
    (repeat' split) <;> exact ⟨_, rfl⟩

/-- Settles O60: a tick always answers a next state, and so does every command, since what it reads is there. -/
theorem partNeverStops : Obligations.PartNeverStops := by
  unfold Obligations.PartNeverStops
  intro s laws
  rw [step]
  split
  · exact ⟨_, rfl⟩
  next c rest _ => exact exec_next (s := { s with pending := rest }) laws c

end Sys2Proof.Machine
end

section
/-! PROOFS. How a request is served or refused (R172, R181), for every handler, and the requests on the code table and on the route
plans (R2 to R11, R70). -/

namespace Sys2Proof.Machine

/-! ### Requests served and refused -/

/-- The first condition of a list that holds decides that an answer is the refusal with its fields. -/
def FirstDecides {α : Type} (answer : α) (refused : List Byte → α) : List (Prop × List Byte) → Prop
  | [] => True
  | (condition, fields) :: later =>
    (condition → answer = refused fields) ∧ (¬ condition → FirstDecides answer refused later)

/-- The checks of a handler are the checks of its request. -/
theorem refusedByFirst_of_serve {s : State} {kind number : Byte} {body : List Byte} (takes : Takes s kind number body)
    {handle : List Byte → State → Answer} (dispatch : exec (requestCommand kind number body) s = serve kind number body handle s)
    {checks : List (Prop × List Byte)}
    (h : FirstDecides (handle body s.popRequest) (fun fields => (s.popRequest, fields)) checks) :
    RefusedByFirst s kind number body checks := by
  induction checks with
  | nil => trivial
  | cons check later ih => exact ⟨fun holds => refused_of_serve takes dispatch (h.1 holds), fun fails => ih (h.2 fails)⟩

theorem refusedByFirst_of_serveLaw {s : State} {kind number : Byte} {body : List Byte} (takes : Takes s kind number body)
    {handle : List Byte → State → Option Answer}
    (dispatch : exec (requestCommand kind number body) s = serveLaw kind number body handle s)
    {checks : List (Prop × List Byte)}
    (h : FirstDecides (handle body s.popRequest) (fun fields => some (s.popRequest, fields)) checks) :
    RefusedByFirst s kind number body checks := by
  induction checks with
  | nil => trivial
  | cons check later ih => exact ⟨fun holds => refused_of_serveLaw takes dispatch (h.1 holds), fun fails => ih (h.2 fails)⟩

/-- A request that is served leaves what its block leaves, and one reply. -/
theorem served_next {i : Instr} {s u : State} {kind number : Byte} {body fields : List Byte} {offered : List Advisory}
    (takes : Takes s kind number body) {handle : List Byte → State → Answer}
    (dispatch : exec i s = serve kind number body handle s) (answered : handle body s.popRequest = (u, fields))
    (lif : u.lif = offered.foldl Lif.offer s.popRequest.lif) :
    ∃ l, exec i s = .next { u with lif := l } ∧ Served s { u with lif := l } kind number offered fields := by
  refine ⟨(completed kind number (u, fields)).lif, ?_, served_completed kind number fields lif⟩
  rw [dispatch, serve_of_takes takes, answered]
  rfl

theorem servedLaw_next {i : Instr} {s u : State} {kind number : Byte} {body fields : List Byte} {offered : List Advisory}
    (takes : Takes s kind number body) {handle : List Byte → State → Option Answer}
    (dispatch : exec i s = serveLaw kind number body handle s) (answered : handle body s.popRequest = some (u, fields))
    (lif : u.lif = offered.foldl Lif.offer s.popRequest.lif) :
    ∃ l, exec i s = .next { u with lif := l } ∧ Served s { u with lif := l } kind number offered fields := by
  refine ⟨(completed kind number (u, fields)).lif, ?_, served_completed kind number fields lif⟩
  rw [dispatch, serveLaw_of_takes takes answered]
  rfl

/-- A digit string in its range of lengths, each digit 0..9, is one that no check refuses (R3, R57, R113). -/
theorem badDigits_iff (low high : Nat) (ds : Digits) : BadDigits low high ds ↔ digitsIn low high ds = false := by
  rw [← Bool.not_eq_true, digitsIn, digitsDecimal, BadDigits]
  simp only [Bool.and_eq_true, decide_eq_true_eq, List.all_eq_true, Classical.not_and_iff_not_or_not, Nat.not_le,
    Classical.not_forall, exists_prop, or_assoc]

theorem digitsIn_iff (low high : Nat) (ds : Digits) :
    digitsIn low high ds = true ↔ low ≤ ds.length ∧ ds.length ≤ high ∧ ∀ d ∈ ds, d ≤ 9 := by
  simp only [digitsIn, digitsDecimal, Bool.and_eq_true, decide_eq_true_eq, List.all_eq_true, and_assoc]

/-! ### Entries by their digit strings -/

theorem findEntry_cons (ds : Digits) (e : PrefixEntry) (t : List PrefixEntry) :
    findEntry ds (e :: t) = if e.digits = ds then some e else findEntry ds t := by
  rw [findEntry, List.find?_cons]
  split <;> simp_all [findEntry]

/-- The entry written is found, and every other string as before (R3). -/
theorem findEntry_putEntry (e : PrefixEntry) (t : List PrefixEntry) (ds : Digits) :
    findEntry ds (putEntry e t) = if e.digits = ds then some e else findEntry ds t := by
  induction t with
  | nil => rw [putEntry, findEntry_cons]
  | cons e' t ih =>
    rw [putEntry]
    split
    next same => rw [findEntry_cons, findEntry_cons, ← same]; split <;> rfl
    next differ =>
      split
      · rw [findEntry_cons]
      · rw [findEntry_cons, findEntry_cons, ih]
        by_cases here : e'.digits = ds
        · rw [if_pos here, if_pos here, if_neg fun same => differ (same.trans here.symm)]
        · rw [if_neg here, if_neg here]

/-- The entry removed is not found, and every other string as before (R4). -/
theorem findEntry_eraseEntry (ds : Digits) (t : List PrefixEntry) (other : Digits) :
    findEntry other (eraseEntry ds t) = if other = ds then none else findEntry other t := by
  induction t with
  | nil => split <;> rfl
  | cons e t ih =>
    rw [eraseEntry, List.filter_cons]
    change findEntry other (if _ then e :: eraseEntry ds t else eraseEntry ds t) = _
    by_cases named : e.digits = ds
    · rw [if_neg (by simp [named]), ih, findEntry_cons, named]
      split
      · rfl
      next differ => rw [if_neg fun same => differ same.symm]
    · rw [if_pos (by simp [named]), findEntry_cons, ih, findEntry_cons]
      by_cases here : e.digits = other
      · rw [if_pos here, if_pos here, if_neg fun same => named (here.trans same)]
      · rw [if_neg here, if_neg here]

theorem digits_ne_of_lt {a b : Digits} (h : a < b) : b ≠ a := fun same => List.lt_irrefl a (same ▸ h)

/-- No entry behind another in table order has its string. -/
theorem findEntry_of_above {ds : Digits} {t : List PrefixEntry} (h : ∀ d ∈ t, ds < d.digits) : findEntry ds t = none := by
  rw [findEntry, List.find?_eq_none]
  intro d hd
  simpa using (digits_ne_of_lt (h d hd))

/-- In table order an entry is replaced, or joins the others (R3). -/
theorem length_putEntry {e : PrefixEntry} {t : List PrefixEntry} (h : prefixesOrdered t = true) :
    (putEntry e t).length = t.length + (if (findEntry e.digits t).isSome then 0 else 1) := by
  rw [prefixesOrdered_iff] at h
  induction t with
  | nil => rfl
  | cons e' t ih =>
    obtain ⟨above, tail⟩ := List.pairwise_cons.mp h
    rw [putEntry, findEntry_cons]
    by_cases named : e.digits = e'.digits
    · rw [if_pos named, if_pos named.symm]
      rfl
    · rw [if_neg named, if_neg (Ne.symm named)]
      split
      next before =>
        have before := (digitsBefore_iff _ _).mp before
        rw [findEntry_of_above fun d hd => List.lt_trans before (above d hd)]
        rfl
      next => rw [List.length_cons, ih tail, List.length_cons, Nat.add_right_comm]

/-- In table order one entry is removed (R4). -/
theorem length_eraseEntry {ds : Digits} {t : List PrefixEntry} (h : prefixesOrdered t = true)
    (stands : (findEntry ds t).isSome = true) : (eraseEntry ds t).length + 1 = t.length := by
  rw [prefixesOrdered_iff] at h
  induction t with
  | nil => cases stands
  | cons e t ih =>
    obtain ⟨above, tail⟩ := List.pairwise_cons.mp h
    rw [findEntry_cons] at stands
    rw [eraseEntry, List.filter_cons]
    by_cases named : e.digits = ds
    · rw [if_neg (by simp [named]), List.length_cons, List.filter_eq_self.mpr]
      intro d hd
      simpa [← named] using digits_ne_of_lt (above d hd)
    · rw [if_neg named] at stands
      rw [if_pos (by simp [named]), List.length_cons, List.length_cons]
      exact congrArg (· + 1) (ih tail stands)

/-! ### SET_PREFIX and DEL_PREFIX -/

theorem exec_setPrefix (number : Byte) (body : List Byte) (s : State) :
    exec (.setPrefix number body) s = serve 0x01 number body handleSetPrefix s := rfl

theorem exec_delPrefix (number : Byte) (body : List Byte) (s : State) :
    exec (.delPrefix number body) s = serve 0x02 number body handleDelPrefix s := rfl

/-- The checks of R3 in their order. -/
theorem setPrefix_checks {body : List Byte} {ds : Digits} {plan : Nat} {note : Option Nat}
    (read : readSetPrefix body = some (ds, plan, note)) (s : State) :
    FirstDecides (handleSetPrefix body s) (fun fields => (s, fields))
      [(BadDigits 1 12 ds, [0x04]), (1024 ≤ plan, [0x03]), (s.plan? plan = none, [0x05]),
        (findEntry ds s.rsl.prefixes = none ∧ 4096 ≤ s.rsl.prefixes.length, [0x08])] := by
  simp only [handleSetPrefix, read]
  refine ⟨fun bad => ?_, fun digits => ⟨fun beyond => ?_, fun inRange => ⟨fun missing => ?_, fun configured => ⟨fun full => ?_,
    fun _ => trivial⟩⟩⟩⟩
  · rw [if_pos (by rw [(badDigits_iff _ _ _).mp bad]; rfl)]
    rfl
  all_goals
    rw [badDigits_iff, Bool.not_eq_false] at digits
    rw [if_neg (by rw [digits]; nofun)]
  · rw [if_pos (show Config.planCount ≤ plan from beyond)]
    rfl
  all_goals rw [if_neg (show ¬ Config.planCount ≤ plan from inRange)]
  · rw [if_pos (by rw [missing]; rfl)]
    rfl
  · rw [if_neg (by rwa [Option.isNone_iff_eq_none]), if_pos]
    · rfl
    · rw [full.1]
      exact decide_eq_true full.2

theorem handleSetPrefix_of_accepted {body : List Byte} {ds : Digits} {plan : Nat} {note : Option Nat} {s : State}
    (read : readSetPrefix body = some (ds, plan, note)) (digits : digitsIn 1 12 ds = true) (inRange : plan < 1024)
    (configured : (s.plan? plan).isSome = true)
    (room : (findEntry ds s.rsl.prefixes).isSome = true ∨ s.rsl.prefixes.length < 4096) :
    handleSetPrefix body s =
      accept (s.setPrefixes (putEntry { digits := ds, plan := plan, note := note } s.rsl.prefixes))
        (putOptional PrefixEntry.layout (findEntry ds s.rsl.prefixes)) := by
  simp only [handleSetPrefix, read]
  rw [if_neg (by rw [digits]; nofun), if_neg (show ¬ Config.planCount ≤ plan from Nat.not_le_of_gt inRange),
    if_neg (by rw [Option.isNone_eq_false_iff.mpr configured]; nofun), if_neg]
  intro full
  rw [Bool.and_eq_true, decide_eq_true_eq, Option.isNone_iff_eq_none] at full
  rcases room with stands | free
  · rw [full.1] at stands; cases stands
  · exact Nat.not_lt_of_le full.2 free

/-- The checks of R4 in their order. -/
theorem delPrefix_checks {body rest : List Byte} {ds : Digits} (read : takeDigits body = some (ds, rest)) (s : State) :
    FirstDecides (handleDelPrefix body s) (fun fields => (s, fields))
      [(BadDigits 1 12 ds, [0x04]), (findEntry ds s.rsl.prefixes = none, [0x05])] := by
  simp only [handleDelPrefix, read]
  refine ⟨fun bad => ?_, fun digits => ⟨fun missing => ?_, fun _ => trivial⟩⟩
  · rw [if_pos (by rw [(badDigits_iff _ _ _).mp bad]; rfl)]
    rfl
  · rw [badDigits_iff, Bool.not_eq_false] at digits
    rw [if_neg (by rw [digits]; nofun), missing]
    rfl

theorem handleDelPrefix_of_accepted {body rest : List Byte} {ds : Digits} {e : PrefixEntry} {s : State}
    (read : takeDigits body = some (ds, rest)) (digits : digitsIn 1 12 ds = true)
    (stands : findEntry ds s.rsl.prefixes = some e) :
    handleDelPrefix body s = accept (s.setPrefixes (eraseEntry ds s.rsl.prefixes)) e.layout := by
  simp only [handleDelPrefix, read, digits, stands]
  rfl

/-- Settles O16: the checks are those of the handlers, and the two edits of the table are its own lemmas. -/
theorem prefixRequestsEditOneEntry : Obligations.PrefixRequestsEditOneEntry := by
  unfold Obligations.PrefixRequestsEditOneEntry
  refine ⟨?_, ?_, ?_, ?_⟩
  · intro s number body ds plan note takes read low high decimal inRange configured room
    obtain ⟨l, next, served⟩ := served_next (offered := []) takes (exec_setPrefix number body s)
      (handleSetPrefix_of_accepted (s := s.popRequest) read ((digitsIn_iff _ _ _).mpr ⟨low, high, decimal⟩) inRange configured
        room) rfl
    refine ⟨_, next, served, rfl, ?_, fun other differ => ?_, fun ordered => ⟨prefixesOrdered_putEntry _ ordered, ?_⟩⟩
    · exact (findEntry_putEntry _ _ _).trans (if_pos rfl)
    · exact (findEntry_putEntry _ _ _).trans (if_neg fun same => differ same.symm)
    · exact length_putEntry ordered
  · intro s number body ds rest e takes read low high decimal stands
    obtain ⟨l, next, served⟩ := served_next (offered := []) takes (exec_delPrefix number body s)
      (handleDelPrefix_of_accepted (s := s.popRequest) read ((digitsIn_iff _ _ _).mpr ⟨low, high, decimal⟩) stands) rfl
    refine ⟨_, next, served, rfl, ?_, fun other differ => ?_, fun ordered => ⟨prefixesOrdered_eraseEntry _ ordered, ?_⟩⟩
    · exact (findEntry_eraseEntry _ _ _).trans (if_pos rfl)
    · exact (findEntry_eraseEntry _ _ _).trans (if_neg differ)
    · exact length_eraseEntry ordered (Option.isSome_iff_exists.mpr ⟨e, stands⟩)
  · intro s number body takes
    refine ⟨fun short => ?_, fun ds plan note read => ?_⟩
    · refine refused_of_serve takes (exec_setPrefix number body s) ?_
      rw [handleSetPrefix, (readSetPrefix_eq_none body).mpr short]
      rfl
    · exact refusedByFirst_of_serve takes (exec_setPrefix number body s) (setPrefix_checks read s.popRequest)
  · intro s number body takes
    refine ⟨fun short => ?_, fun ds rest read => ?_⟩
    · refine refused_of_serve takes (exec_delPrefix number body s) ?_
      rw [handleDelPrefix, (takeDigits_eq_none body).mpr short]
      rfl
    · exact refusedByFirst_of_serve takes (exec_delPrefix number body s) (delPrefix_checks read s.popRequest)

/-! ### Lookups -/

theorem longestMatch_ne_none {number : Digits} {t : List PrefixEntry} {d : PrefixEntry} (hd : d ∈ t)
    (lead : d.digits <+: number) : longestMatch number t ≠ none := by
  induction t with
  | nil => cases hd
  | cons e rest ih =>
    rw [longestMatch]
    split
    next none =>
      rcases List.mem_cons.mp hd with rfl | there
      · rw [if_pos ((leads_iff _ _).mpr lead)]
        nofun
      · exact absurd none (ih there)
    next => split <;> nofun

/-- The longest match leads the number, and none that leads it is longer (R2). -/
theorem longestMatch_eq_some {number : Digits} {t : List PrefixEntry} {e : PrefixEntry} (h : longestMatch number t = some e) :
    e.digits <+: number ∧ ∀ d ∈ t, d.digits <+: number → d.digits.length ≤ e.digits.length := by
  induction t generalizing e with
  | nil => cases h
  | cons d rest ih =>
    rw [longestMatch] at h
    split at h
    next none =>
      split at h
      next lead =>
        cases h
        refine ⟨(leads_iff _ _).mp lead, fun d' hd' lead' => ?_⟩
        rcases List.mem_cons.mp hd' with rfl | there
        · exact Nat.le_refl _
        · exact absurd none (longestMatch_ne_none there lead')
      next => cases h
    next b found =>
      obtain ⟨lead, longest⟩ := ih found
      split at h
      next longer =>
        cases h
        rw [Bool.and_eq_true, decide_eq_true_eq, leads_iff] at longer
        refine ⟨longer.1, fun d' hd' lead' => ?_⟩
        rcases List.mem_cons.mp hd' with rfl | there
        · exact Nat.le_refl _
        · exact Nat.le_trans (longest d' there lead') (Nat.le_of_lt longer.2)
      next shorter =>
        cases h
        rw [Bool.and_eq_true, decide_eq_true_eq, leads_iff, not_and, Nat.not_lt] at shorter
        refine ⟨lead, fun d' hd' lead' => ?_⟩
        rcases List.mem_cons.mp hd' with rfl | there
        · exact shorter lead'
        · exact longest d' there lead'

/-- The first entry behind a string, where the table stands in its order (R5). -/
theorem nextEntry_eq_some {ds : Digits} {t : List PrefixEntry} (ordered : prefixesOrdered t = true) {e : PrefixEntry}
    (h : nextEntry ds t = some e) :
    e ∈ t ∧ digitsBefore ds e.digits = true ∧
      ∀ d ∈ t, digitsBefore ds d.digits = true → d = e ∨ digitsBefore e.digits d.digits = true := by
  obtain ⟨behind, older, newer, rfl, before⟩ := List.find?_eq_some_iff_append.mp h
  refine ⟨by simp, behind, fun d hd later => ?_⟩
  obtain ⟨-, rest, -⟩ := List.pairwise_append.mp ((prefixesOrdered_iff _).mp ordered)
  rcases List.mem_append.mp hd with early | late
  · have sooner := before d early
    rw [later] at sooner
    cases sooner
  · rcases List.mem_cons.mp late with rfl | late
    · exact .inl rfl
    · exact .inr ((digitsBefore_iff _ _).mpr ((List.pairwise_cons.mp rest).1 d late))

/-- Settles O17: the longest match by the recursion over the table, the walk by the order of the table. -/
theorem prefixLookups : Obligations.PrefixLookups := by
  unfold Obligations.PrefixLookups
  refine ⟨fun number t => ⟨fun e found => ?_, fun none e he lead => ?_⟩,
    fun ds t ordered => ⟨fun e found => nextEntry_eq_some ordered found, fun none e he => ?_⟩⟩
  · exact ⟨longestMatch_mem found, longestMatch_eq_some found⟩
  · exact longestMatch_ne_none he lead none
  · simpa using List.find?_eq_none.mp none e he

/-! ### SET_PLAN -/

theorem exec_setPlan (number : Byte) (body : List Byte) (s : State) :
    exec (.setPlan number body) s = serve 0x03 number body handleSetPlan s := rfl

theorem hasRepeat_iff (l : List Nat) : hasRepeat l = true ↔ ¬ l.Nodup := by
  induction l with
  | nil => simp [hasRepeat]
  | cons a l ih =>
    rw [hasRepeat, Bool.or_eq_true, ih, List.nodup_cons, List.contains_iff_mem, Decidable.not_and_iff_not_or_not,
      Decidable.not_not]

theorem any_groupBeyond (l : List Nat) :
    (l.any fun g => decide (Config.groupCount ≤ g)) = true ↔ ∃ g ∈ l, 512 ≤ g := by
  simp only [List.any_eq_true, decide_eq_true_eq]
  rfl

theorem planModeOf_eq (b : Nat) :
    planModeOf b = if b = 0 then some .fixed else if b = 1 then some .sticky else none := rfl

/-- The checks of R8 in their order. -/
theorem setPlan_checks {body : List Byte} {f : PlanFields} (read : readSetPlan body = some f) (s : State) :
    FirstDecides (handleSetPlan body s) (fun fields => (s, fields))
      [(1024 ≤ f.index, [0x03]), (f.choices.length = 0 ∨ 6 < f.choices.length, [0x04]), (∃ g ∈ f.choices, 512 ≤ g, [0x03]),
        (¬ f.choices.Nodup, [0x04]), (2 ≤ f.mode, [0x04])] := by
  simp only [handleSetPlan, read]
  refine ⟨fun beyond => ?_, fun index => ⟨fun count => ?_, fun choices => ⟨fun beyond => ?_, fun groups => ⟨fun twice => ?_,
    fun once => ⟨fun mode => ?_, fun _ => trivial⟩⟩⟩⟩⟩
  · rw [if_pos (show Config.planCount ≤ f.index from beyond)]
    rfl
  all_goals rw [if_neg (show ¬ Config.planCount ≤ f.index from index)]
  · rw [if_pos (by simpa using count)]
    rfl
  all_goals rw [if_neg (by simpa using choices)]
  · rw [if_pos ((any_groupBeyond _).mpr beyond)]
    rfl
  all_goals
    rw [if_neg fun any => groups ((any_groupBeyond _).mp any)]
  · rw [if_pos ((hasRepeat_iff _).mpr twice)]
    rfl
  · rw [if_neg fun repeats => (hasRepeat_iff _).mp repeats (by simpa using once)]
    have unknown : planModeOf f.mode = none := by
      rw [planModeOf_eq, if_neg (by omega), if_neg (by omega)]
    rw [unknown]
    rfl

/-- The plan that an accepted SET_PLAN stores, as R9 has it. -/
theorem PlanFields.stored_eq (f : PlanFields) {mode : PlanMode} (known : planModeOf f.mode = some mode) :
    f.stored mode =
      { choices := f.choices, mode := if f.mode = 0 then .fixed else .sticky,
        stickyPosition := if f.mode = 1 ∧ 2 ≤ f.choices.length then some 2 else none,
        ceiling := f.ceiling.map (fun c => if c = 0 then 1 else c),
        crankbackLimit := if 5 < f.limit then 5 else f.limit } := by
  have ceilings : (fun c => max 1 c) = fun c => if c = 0 then 1 else c := by
    funext c
    split <;> omega
  rw [PlanFields.stored, ceilings, ceiling_eq_ite]
  rw [planModeOf_eq] at known
  split at known
  next fixed => cases known; simp [fixed]
  next =>
    split at known
    next sticky => cases known; simp [sticky]
    next => cases known

theorem handleSetPlan_of_accepted {body : List Byte} {f : PlanFields} {mode : PlanMode} (read : readSetPlan body = some f)
    (index : f.index < 1024) (low : 1 ≤ f.choices.length) (high : f.choices.length ≤ 6) (groups : ∀ g ∈ f.choices, g < 512)
    (once : f.choices.Nodup) (known : planModeOf f.mode = some mode) (s : State) :
    handleSetPlan body s = accept (s.putPlan f.index (f.stored mode))
      (putOptional Plan.layout (s.plan? f.index) ++ putOptional (putNumber 3) (f.stored mode).ceiling ++
        putNumber 1 (f.stored mode).crankbackLimit) := by
  have inRange : (f.choices.any fun g => decide (Config.groupCount ≤ g)) = false := by
    rw [← Bool.not_eq_true, any_groupBeyond]
    exact fun ⟨g, there, beyond⟩ => Nat.not_le_of_gt (groups g there) beyond
  have single : hasRepeat f.choices = false := by
    rw [← Bool.not_eq_true, hasRepeat_iff, Decidable.not_not]
    exact once
  simp only [handleSetPlan, read, known]
  rw [if_neg (show ¬ Config.planCount ≤ f.index from Nat.not_le_of_gt index),
    if_neg (by simp only [Bool.or_eq_true, decide_eq_true_eq]; omega), inRange, single]
  rfl

/-! ### The sticky position -/

theorem Plan.hasSticky_iff (p : Plan) : p.hasSticky = true ↔ p.mode = .sticky ∧ 2 ≤ p.choices.length := by
  simp [Plan.hasSticky]

theorem Plan.hasSticky_eq_false {p : Plan} (h : p.mode = .fixed ∨ p.choices.length < 2) : p.hasSticky = false := by
  rw [← Bool.not_eq_true, Plan.hasSticky_iff]
  rintro ⟨sticky, two⟩
  rcases h with fixed | few
  · rw [fixed] at sticky; cases sticky
  · omega

theorem Plan.advanceSticky_ne {p : Plan} {position : Nat} (h : p.stickyPosition ≠ some position) :
    p.advanceSticky position = p := by
  rw [Plan.advanceSticky, if_neg]
  simp [h]

theorem Plan.advanceSticky_of_sticky {p : Plan} {position : Nat} (sticky : p.hasSticky = true)
    (h : p.stickyPosition = some position) :
    p.advanceSticky position =
      { p with stickyPosition := some (if position < p.choices.length then position + 1 else 2) } := by
  rw [Plan.advanceSticky, if_pos (by simp [sticky, h])]

theorem Plan.sticky_of_none {p : Plan} (none : p.hasSticky = false) (position : Nat) :
    p.advanceSticky position = p ∧ p.grantSticky position = p := by
  simp [Plan.advanceSticky, Plan.grantSticky, none]

theorem Plan.grantSticky_of_sticky {p : Plan} (sticky : p.hasSticky = true) (position : Nat) :
    p.grantSticky position = if position = 1 then p else { p with stickyPosition := some position } := by
  rw [Plan.grantSticky, sticky]
  by_cases direct : position = 1
  · simp [direct]
  · simp [direct]

/-- Settles O18: the checks are those of the handler, the plan stored is that of R9, and the sticky position moves as R10 and R70 say. -/
theorem planWrittenAndStickyMoves : Obligations.PlanWrittenAndStickyMoves := by
  unfold Obligations.PlanWrittenAndStickyMoves
  refine ⟨?written, ?moves, fun p position none => p.sticky_of_none (Plan.hasSticky_eq_false none) position, ?reported,
    ?refused⟩
  case written =>
    intro s number body f p takes read index low high groups once mode plan
    have known : ∃ mode, planModeOf f.mode = some mode := by
      rw [planModeOf_eq]
      split
      · exact ⟨_, rfl⟩
      next => rw [if_pos (by omega)]; exact ⟨_, rfl⟩
    obtain ⟨mode', known⟩ := known
    have answered := handleSetPlan_of_accepted read index low high groups once known s.popRequest
    rw [f.stored_eq known, ← plan] at answered
    obtain ⟨l, next, served⟩ := served_next (offered := []) takes (exec_setPlan number body s) answered rfl
    refine ⟨_, next, ?_, rfl, Table.get?_put_self _ _ _, fun q differ => Table.get?_put_ne _ _ differ⟩
    exact served
  case moves =>
    intro p q position sticky two held low high
    have has := p.hasSticky_iff.mpr ⟨sticky, two⟩
    have granted : ∀ position, 2 ≤ position → p.grantSticky position = { p with stickyPosition := some position } :=
      fun position alternate => by rw [Plan.grantSticky_of_sticky has, if_neg (by omega)]
    refine ⟨fun differ => Plan.advanceSticky_ne (by rw [held]; simpa using Ne.symm differ), fun inside => ?_, fun last => ?_, ?_,
      ?_, granted position⟩
    · rw [Plan.advanceSticky_of_sticky has held, if_pos inside]
    · rw [Plan.advanceSticky_of_sticky has held, if_neg (by omega)]
    · rw [Plan.grantSticky_of_sticky has, if_pos rfl]
    · rw [granted q low, ← held]
  case reported =>
    refine fun s i position => ⟨fun missing => ?_, fun p held => ?_⟩
    · rw [State.advanceSticky, missing]
    · rw [State.advanceSticky, held]
      rfl
  case refused =>
    refine fun s number body takes => ⟨fun short => ?_, fun f read => ?_⟩
    · refine refused_of_serve takes (exec_setPlan number body s) ?_
      rw [handleSetPlan, (readSetPlan_eq_none body).mpr short]
      rfl
    · exact refusedByFirst_of_serve takes (exec_setPlan number body s) (setPlan_checks read s.popRequest)

end Sys2Proof.Machine
end

section
/-! PROOFS. The requests on the gap table, the close of a duration (R113 to R115), and the gaps that an escalation places and a fall
lifts (R119 to R121). -/

namespace Sys2Proof.Machine

/-! ### Keys as sent -/

theorem RawKey.bad_iff (raw : RawKey) : raw.bad ↔ raw.badValue = true := by
  cases raw with
  | digits ds => simp [RawKey.bad, RawKey.badValue, badDigits_iff]
  | plan p => simp [RawKey.bad, RawKey.badValue]
  | other => simp [RawKey.bad, RawKey.badValue]

theorem RawKey.badIndex_iff (raw : RawKey) : raw.badIndex = true ↔ ∃ p, raw = .plan p ∧ 1024 ≤ p := by
  have count : Config.planCount = 1024 := rfl
  cases raw <;> simp [RawKey.badIndex, count]

theorem RawKey.missing_iff (s : State) (raw : RawKey) : raw.missing s = true ↔ ∃ p, raw = .plan p ∧ s.plan? p = none := by
  cases raw <;> simp [RawKey.missing]

/-- For a key that the table can have, absent means that no entry has it (R113). -/
theorem RawKey.absent_iff (s : State) {raw : RawKey} (good : raw.badValue = false) :
    raw.absent s ↔ findGap raw.key s.gpc.gaps = none := by
  cases raw with
  | digits ds => simp [RawKey.absent, RawKey.key]
  | plan p => simp [RawKey.absent, RawKey.key]
  | other => cases good

/-- A key as sent that names a key of the table passes the checks of R113. -/
theorem RawKey.names_passes {s : State} {raw : RawKey} {key : GapKey} (h : raw.names s key) :
    raw.key = key ∧ raw.badValue = false ∧ raw.badIndex = false ∧ raw.missing s = false := by
  cases raw with
  | digits ds =>
    obtain ⟨rfl, digits⟩ := h
    exact ⟨rfl, by simp [RawKey.badValue, digits], rfl, rfl⟩
  | plan p =>
    obtain ⟨rfl, inRange, configured⟩ := h
    exact ⟨rfl, rfl, decide_eq_false (Nat.not_le_of_gt inRange), Option.isNone_eq_false_iff.mpr configured⟩
  | other => cases h

/-! ### The handlers -/

theorem exec_setGap (number : Byte) (body : List Byte) (s : State) :
    exec (.setGap number body) s = serve 0x0B number body handleSetGap s := rfl

theorem exec_delGap (number : Byte) (body : List Byte) (s : State) :
    exec (.delGap number body) s = serve 0x0C number body handleDelGap s := rfl

/-- The checks of R113 in their order. -/
theorem setGap_checks {body : List Byte} {f : GapFields} (read : readSetGap body = some f) (s : State) :
    FirstDecides (handleSetGap body s) (fun fields => (s, fields))
      [(f.key.bad ∨ 1 < f.flag, [0x04]), (∃ p, f.key = .plan p ∧ 1024 ≤ p, [0x03]),
        (∃ p, f.key = .plan p ∧ s.plan? p = none, [0x05]),
        (f.key.absent s ∧ ∀ j < 64, (s.gpc.gaps.get? j).isSome = true, [0x08])] := by
  simp only [handleSetGap, read]
  rw [RawKey.bad_iff]
  refine ⟨fun bad => ?_, fun good => ⟨fun beyond => ?_, fun inRange => ⟨fun missing => ?_, fun configured => ⟨fun full => ?_,
    fun _ => trivial⟩⟩⟩⟩
  · rw [if_pos (by simpa using bad)]
    rfl
  all_goals rw [if_neg (by simpa using good)]
  · rw [if_pos ((RawKey.badIndex_iff _).mpr beyond)]
    rfl
  all_goals rw [if_neg fun beyond => inRange ((RawKey.badIndex_iff _).mp beyond)]
  · rw [if_pos ((RawKey.missing_iff _ _).mpr missing)]
    rfl
  · have known : f.key.badValue = false := by
      rw [← Bool.not_eq_true]
      exact fun bad => good (.inl bad)
    rw [if_neg fun missing => configured ((RawKey.missing_iff _ _).mp missing), (RawKey.absent_iff s known).mp full.1,
      (freeSlot_eq_none _).mpr full.2]
    rfl

/-- An accepted SET_GAP writes its entry in the slot of the key, or in the lowest free one (R113). -/
theorem handleSetGap_of_accepted {body : List Byte} {f : GapFields} {key : GapKey} {s : State} {slot : Nat} {old : Option Gap}
    (read : readSetGap body = some f) (names : f.key.names s key) (flag : f.flag ≤ 1)
    (place : (∃ g, old = some g ∧ findGap key s.gpc.gaps = some (slot, g)) ∨
      (old = none ∧ findGap key s.gpc.gaps = none ∧ freeSlot s.gpc.gaps = some slot)) :
    handleSetGap body s =
      accept (s.setGaps (s.gpc.gaps.put slot (f.stored s.now))) (f.replyFields slot old s.now) := by
  obtain ⟨rfl, value, index, configured⟩ := RawKey.names_passes names
  have flag : ¬ 1 < f.flag := Nat.not_lt_of_le flag
  simp only [handleSetGap, read, value, index, configured, decide_eq_false flag, Bool.or_self, Bool.false_eq_true, if_false]
  rcases place with ⟨g, rfl, found⟩ | ⟨rfl, unused, free⟩
  · rw [found]
  · rw [unused, free]

/-- The checks of R115 in their order. -/
theorem delGap_checks {body rest : List Byte} {raw : RawKey} (read : takeGapKey body = some (raw, rest)) (s : State) :
    FirstDecides (handleDelGap body s) (fun fields => (s, fields))
      [(raw.bad, [0x04]), (∃ p, raw = .plan p ∧ 1024 ≤ p, [0x03]), (raw.absent s, [0x05])] := by
  simp only [handleDelGap, read]
  rw [RawKey.bad_iff]
  refine ⟨fun bad => ?_, fun good => ⟨fun beyond => ?_, fun inRange => ⟨fun absent => ?_, fun _ => trivial⟩⟩⟩
  · rw [if_pos bad]
    rfl
  all_goals rw [if_neg good]
  · rw [if_pos ((RawKey.badIndex_iff _).mpr beyond)]
    rfl
  · rw [if_neg fun beyond => inRange ((RawKey.badIndex_iff _).mp beyond),
      (RawKey.absent_iff s (Bool.not_eq_true _ ▸ good)).mp absent]
    rfl

theorem handleDelGap_of_accepted {body rest : List Byte} {raw : RawKey} {s : State} {slot : Nat} {g : Gap}
    (read : takeGapKey body = some (raw, rest)) (value : raw.badValue = false) (index : raw.badIndex = false)
    (found : findGap raw.key s.gpc.gaps = some (slot, g)) :
    handleDelGap body s = accept (s.setGaps (s.gpc.gaps.erase slot)) (putNumber 1 slot ++ g.layout s.now) := by
  simp only [handleDelGap, read, value, index, found, Bool.false_eq_true, if_false]

/-- A timer that expires now, or has not been seen to. -/
theorem timer_due {timer : Timer} {e : Nat} (running : timer = some e) {s : State} (due : e ≤ s.tmb.now) :
    Timer.due timer s.now = true := by
  rw [running]
  exact decide_eq_true due

/-- The entry whose duration has run out is removed (R114). -/
theorem exec_gapDurationExpiry_of_due {s : State} {slot e : Nat} {g : Gap} (held : s.gpc.gaps.get? slot = some g)
    (timer : g.expiry = some e) (due : e ≤ s.tmb.now) :
    exec (.gapDurationExpiry slot) s = .next (s.setGaps (s.gpc.gaps.erase slot)) := by
  have dispatch : exec (.gapDurationExpiry slot) s = execGapDurationExpiry slot s := rfl
  rw [dispatch, execGapDurationExpiry, held]
  simp only [timer_due timer due, if_true]

/-- Settles O19: the checks are those of the handlers, and each edit writes or removes the entry of one slot. -/
theorem gapRequestsEditOneEntry : Obligations.GapRequestsEditOneEntry := by
  unfold Obligations.GapRequestsEditOneEntry
  refine ⟨?set, ?del, ?ends, ?setChecks, ?delChecks⟩
  case set =>
    intro s number body f key slot old takes read names flag place
    have place : (∃ g, old = some g ∧ findGap key s.gpc.gaps = some (slot, g)) ∨
        (old = none ∧ findGap key s.gpc.gaps = none ∧ freeSlot s.gpc.gaps = some slot) :=
      place.imp id fun ⟨fresh, unused, low, free, taken⟩ => ⟨fresh, unused, (freeSlot_eq_some _ _).mpr ⟨low, free, taken⟩⟩
    obtain ⟨l, next, served⟩ := served_next (offered := []) takes (exec_setGap number body s)
      (handleSetGap_of_accepted (s := s.popRequest) read names flag place) rfl
    obtain ⟨key, -⟩ := RawKey.names_passes names
    refine ⟨_, next, served, rfl, ?_, fun j other => Table.get?_put_ne _ _ other⟩
    rw [← key]
    exact Table.get?_put_self _ _ _
  case del =>
    intro s number body rest raw slot g takes read names wf
    have passes : raw.badValue = false ∧ raw.badIndex = false ∧ findGap raw.key s.gpc.gaps = some (slot, g) := by
      rcases names with ⟨ds, rfl, digits, found⟩ | ⟨p, rfl, inRange, found⟩
      · exact ⟨by simp [RawKey.badValue, digits], rfl, found⟩
      · exact ⟨rfl, decide_eq_false (Nat.not_le_of_gt inRange), found⟩
    obtain ⟨value, index, found⟩ := passes
    obtain ⟨l, next, served⟩ := served_next (offered := []) takes (exec_delGap number body s)
      (handleDelGap_of_accepted (s := s.popRequest) read value index found) rfl
    exact ⟨_, next, served, rfl, Table.get?_erase_self _ wf _, fun j other => Table.get?_erase_ne _ other⟩
  case ends =>
    intro s slot e g held timer due wf
    exact ⟨_, exec_gapDurationExpiry_of_due held timer due, rfl, Table.get?_erase_self _ wf _,
      fun j other => Table.get?_erase_ne _ other⟩
  case setChecks =>
    refine fun s number body takes => ⟨fun short => ?_, fun f read => ?_⟩
    · refine refused_of_serve takes (exec_setGap number body s) ?_
      rw [handleSetGap, (readSetGap_eq_none body).mpr short]
      rfl
    · exact refusedByFirst_of_serve takes (exec_setGap number body s) (setGap_checks read s.popRequest)
  case delChecks =>
    refine fun s number body takes => ⟨fun short => ?_, fun raw rest read => ?_⟩
    · refine refused_of_serve takes (exec_delGap number body s) ?_
      rw [handleDelGap, (takeGapKey_eq_none body).mpr short]
      rfl
    · exact refusedByFirst_of_serve takes (exec_delGap number body s) (delGap_checks read s.popRequest)

/-! ### Escalation -/

theorem State.planQualifies_iff (s : State) (plan : Plan) :
    s.planQualifies plan = true ↔
      ∀ h ∈ plan.choices, ∀ grp, s.group? h = some grp → grp.service ≠ .inService ∨ grp.level = 3 := by
  rw [State.planQualifies, List.all_eq_true]
  refine forall₂_congr fun h _ => ?_
  rw [State.choiceShut]
  cases s.group? h <;> simp

/-- Settles O22: the timer stops and the plans are examined in their order; what becomes of one plan is its own case. -/
theorem escalationPlacesGaps : Obligations.EscalationPlacesGaps := by
  unfold Obligations.EscalationPlacesGaps
  refine ⟨fun s g e grp held timer due => ?expiry, fun s plan => s.planQualifies_iff plan, fun s g p plan =>
    ⟨fun other => ?other, fun direct qualifies ungapped => ⟨fun slot low free taken => ?placed, fun full => ?full⟩⟩⟩
  case expiry =>
    have dispatch : exec (.escalationExpiry g) s = execEscalationExpiry g s := rfl
    rw [dispatch, execEscalationExpiry, held]
    simp only [timer_due timer due, if_true]
    rfl
  case other =>
    rw [State.gapPlan, if_neg]
    rw [Bool.and_eq_true, Bool.and_eq_true, decide_eq_true_eq, Option.isNone_iff_eq_none]
    rintro ⟨⟨direct, qualifies⟩, ungapped⟩
    rcases other with differ | unqualified | gapped
    · exact differ direct
    · have qualifies : s.planQualifies plan = true := qualifies
      rw [unqualified] at qualifies
      cases qualifies
    · have ungapped : findGap (.plan p) s.gpc.gaps = none := ungapped
      rw [ungapped] at gapped
      cases gapped
  case placed =>
    have free := (freeSlot_eq_some _ _).mpr ⟨low, free, taken⟩
    rw [State.gapPlan_of_freeSlot direct qualifies ungapped free]
    rfl
  case full =>
    have none := (freeSlot_eq_none _).mpr full
    simp only [State.gapPlan, direct, qualifies, ungapped, none]
    rfl

/-! ### Falls -/

/-- In canonical form the removal of a slot keeps the others. -/
theorem Table.erase_eq_filter {α : Type} {t : Table α} (wf : t.wf = true) (k : Nat) :
    t.erase k = t.filter fun e => decide (e.1 ≠ k) := by
  refine Table.ext (Table.wf_erase t wf k) (Table.wf_filter t wf _) fun j => ?_
  rw [Table.get?_filter t wf]
  by_cases same : j = k
  · subst same
    rw [Table.get?_erase_self t wf]
    cases t.get? j with
    | none => rfl
    | some v => rw [Option.filter_some, if_neg (by simp)]
  · rw [Table.get?_erase_ne t same]
    cases t.get? j with
    | none => rfl
    | some v => simp [Option.filter, same]

/-- An AUTO entry on a plan. -/
def Gap.autoOn (g : Gap) (p : Nat) : Bool := decide (g.origin = .auto) && decide (g.key = .plan p)

/-- The gap table without the AUTO entries on the plans of a list that name a group (R121). -/
def gapsWithout (ps : Table Plan) (g : Nat) (t : Table Gap) : Table Gap :=
  t.filter fun e => !ps.any fun p => p.2.choices.contains g && e.2.autoOn p.1

/-- The advisories for the plans of a list that name a group and have an AUTO entry (R121). -/
def gapOffsOf (ps : Table Plan) (g : Nat) (t : Table Gap) : List Advisory :=
  (ps.filter fun p => p.2.choices.contains g && t.any fun e => e.2.autoOn p.1).map fun p => .gapOff p.1 g

/-- In canonical form the one entry on a plan decides what a fall report does with it (R121). -/
theorem State.ungapPlan_eq {s : State} (canon : gapsCanonical s.gpc.gaps) (g : Nat) (e : Nat × Plan) :
    s.ungapPlan g e = (s.setGaps (gapsWithout [e] g s.gpc.gaps)).offerAll (gapOffsOf [e] g s.gpc.gaps) := by
  obtain ⟨wf, single⟩ := (gapsCanonical_iff _).mp canon
  have untouched : (∀ d ∈ s.gpc.gaps, (e.2.choices.contains g && d.2.autoOn e.1) = false) →
      s = (s.setGaps (gapsWithout [e] g s.gpc.gaps)).offerAll (gapOffsOf [e] g s.gpc.gaps) := by
    intro none
    have kept : gapsWithout [e] g s.gpc.gaps = s.gpc.gaps := by
      rw [gapsWithout, List.filter_eq_self]
      intro d hd
      simp only [List.any_cons, List.any_nil, Bool.or_false, none d hd, Bool.not_false]
    have silent : gapOffsOf [e] g s.gpc.gaps = [] := by
      rw [gapOffsOf, List.filter_eq_nil_iff.mpr, List.map_nil]
      intro d hd
      rw [List.mem_singleton.mp hd, Bool.and_eq_true, List.any_eq_true]
      rintro ⟨names, f, hf, auto⟩
      have := none f hf
      rw [names, auto] at this
      cases this
    rw [kept, silent, State.offerAll_nil]
    rfl
  rw [State.ungapPlan]
  split
  next names =>
    split
    next slot gap found =>
      obtain ⟨there, key⟩ := mem_of_findGap found
      split
      next auto =>
        have on : gap.autoOn e.1 = true := by rw [Gap.autoOn, decide_eq_true auto, decide_eq_true key]; rfl
        have erased : s.gpc.gaps.erase slot = gapsWithout [e] g s.gpc.gaps := by
          rw [Table.erase_eq_filter wf, gapsWithout]
          refine List.filter_congr fun d hd => ?_
          simp only [List.any_cons, List.any_nil, Bool.or_false, names, Bool.true_and]
          by_cases same : d.1 = slot
          · have here : d = (slot, gap) := by
              have held := Table.get?_of_mem _ wf (k := d.1) (v := d.2) hd
              rw [same, Table.get?_of_mem _ wf there, Option.some.injEq] at held
              exact Prod.ext same held.symm
            subst here
            simp [on]
          · have differ : d.2.autoOn e.1 = false := by
              rw [Gap.autoOn, Bool.and_eq_false_iff, decide_eq_false_iff_not, decide_eq_false_iff_not]
              exact .inr fun keyed => same (single d hd (slot, gap) there (keyed.trans key.symm))
            simp [same, differ]
        have offered : gapOffsOf [e] g s.gpc.gaps = [.gapOff e.1 g] := by
          have some' : (s.gpc.gaps.any fun d => d.2.autoOn e.1) = true := List.any_eq_true.mpr ⟨_, there, on⟩
          simp only [gapOffsOf, List.filter_cons, List.filter_nil, names, some', Bool.and_self, if_true, List.map_cons,
            List.map_nil]
        rw [erased, offered]
        rfl
      next manual =>
        refine untouched fun d hd => ?_
        rw [Bool.and_eq_false_iff]
        right
        rw [Gap.autoOn, Bool.and_eq_false_iff, decide_eq_false_iff_not, decide_eq_false_iff_not]
        by_cases keyed : d.2.key = .plan e.1
        · left
          have same := single d hd (slot, gap) there (keyed.trans key.symm)
          have held := Table.get?_of_mem _ wf (k := d.1) (v := d.2) hd
          rw [same, Table.get?_of_mem _ wf there, Option.some.injEq] at held
          rw [← held]
          exact manual
        · exact .inr keyed
    next none =>
      refine untouched fun d hd => ?_
      rw [Bool.and_eq_false_iff]
      right
      rw [Gap.autoOn, Bool.and_eq_false_iff, decide_eq_false_iff_not, decide_eq_false_iff_not]
      exact .inr ((findGap_eq_none _ _).mp none d hd)
  next other =>
    refine untouched fun d hd => ?_
    rw [Bool.not_eq_true] at other
    rw [other]
    rfl

/-- The plans of a list in turn: no two have the same index, so what one lifts is not what another would (R121). -/
theorem foldl_ungapPlan {ps : Table Plan} (wf : ps.wf = true) (g : Nat) {s : State} (canon : gapsCanonical s.gpc.gaps) :
    ps.foldl (State.ungapPlan g) s = (s.setGaps (gapsWithout ps g s.gpc.gaps)).offerAll (gapOffsOf ps g s.gpc.gaps) := by
  induction ps generalizing s with
  | nil =>
    have all : gapsWithout [] g s.gpc.gaps = s.gpc.gaps := List.filter_eq_self.mpr fun _ _ => rfl
    rw [List.foldl_nil, all]
    rfl
  | cons e ps ih =>
    obtain ⟨above, tail⟩ := (Table.wf_cons e.1 e.2 ps).mp wf
    have canon' : gapsCanonical (gapsWithout [e] g s.gpc.gaps) := gapsCanonical_filter canon _
    rw [List.foldl_cons, State.ungapPlan_eq canon, ih tail (by exact canon')]
    have gaps : gapsWithout ps g (gapsWithout [e] g s.gpc.gaps) = gapsWithout (e :: ps) g s.gpc.gaps := by
      rw [gapsWithout, gapsWithout, gapsWithout, List.filter_filter]
      refine List.filter_congr fun d _ => ?_
      simp only [List.any_cons, List.any_nil, Bool.or_false, Bool.not_or, Bool.and_comm]
    have offers : gapOffsOf ps g (gapsWithout [e] g s.gpc.gaps) = gapOffsOf ps g s.gpc.gaps := by
      rw [gapOffsOf, gapOffsOf]
      congr 1
      refine List.filter_congr fun p hp => ?_
      congr 1
      rw [gapsWithout, List.any_filter]
      refine List.any_congr rfl fun d => ?_
      by_cases on : d.2.autoOn p.1 = true
      · have other : d.2.autoOn e.1 = false := by
          rw [Gap.autoOn, Bool.and_eq_true, decide_eq_true_eq, decide_eq_true_eq] at on
          rw [Gap.autoOn, Bool.and_eq_false_iff, decide_eq_false_iff_not, decide_eq_false_iff_not, on.2]
          exact .inr fun same => Nat.ne_of_lt (above p hp) (GapKey.plan.inj same).symm
        simp [on, other]
      · simp [on]
    have joined : gapOffsOf (e :: ps) g s.gpc.gaps = gapOffsOf [e] g s.gpc.gaps ++ gapOffsOf ps g s.gpc.gaps := by
      rw [gapOffsOf, gapOffsOf, gapOffsOf, ← List.map_append, ← List.filter_append]
      rfl
    have frame : ∀ (t : Table Gap) (as bs : List Advisory) (u : Table Gap),
        (((s.setGaps t).offerAll as).setGaps u).offerAll bs = (s.setGaps u).offerAll (as ++ bs) := fun t as bs u => by
      simp only [State.offerAll, State.withLif, State.setGaps, List.foldl_append]
    have stood : ((s.setGaps (gapsWithout [e] g s.gpc.gaps)).offerAll (gapOffsOf [e] g s.gpc.gaps)).gpc.gaps =
        gapsWithout [e] g s.gpc.gaps := rfl
    rw [stood, frame, gaps, offers, joined]

/-- The fall report of a group lifts the AUTO entries on the plans that name it, and says so of each (R121). -/
theorem fallReport_eq {s : State} (plans : s.rsl.plans.wf = true) (gaps : gapsCanonical s.gpc.gaps) (g : Nat) :
    s.fallReport g = { s with
      lif := (gapOffsOffered s g).foldl Lif.offer s.lif, gpc := { s.gpc with gaps := gapsAfterFall s g } } := by
  rw [State.fallReport, foldl_ungapPlan plans g gaps]
  have lifted : gapsWithout s.rsl.plans g s.gpc.gaps = gapsAfterFall s g := by
    rw [gapsWithout, gapsAfterFall]
    refine List.filter_congr fun d _ => ?_
    rw [Bool.not_inj_iff]
    by_cases auto : d.2.origin = .auto
    · simp [Gap.autoOn, auto]
    · simp [Gap.autoOn, auto]
  have offers : gapOffsOf s.rsl.plans g s.gpc.gaps = gapOffsOffered s g := by
    simp only [gapOffsOf, gapOffsOffered, Gap.autoOn, Bool.and_comm]
  rw [lifted, offers]
  rfl

/-- Settles O23: the fold over the plans in their order. -/
theorem fallReportRemovesGaps : Obligations.FallReportRemovesGaps := by
  unfold Obligations.FallReportRemovesGaps
  rintro s g ⟨_, plans, _, _, _, _, _, wf, distinct⟩
  exact fallReport_eq plans ⟨wf, distinct⟩ g

end Sys2Proof.Machine
end

section
/-! PROOFS. SET_GROUP, DEL_GROUP and SERVICE (R19 to R23, R34): their checks, and what each leaves of the groups, the circuits and the
calls. -/

namespace Sys2Proof.Machine

/-! ### The checks of a request that names a record -/

/-- The index is checked against its range, then the record is looked up, and what the block checks comes after (R11, R23). -/
theorem withRecord_checks {α : Type} {n limit i : Nat} {find : Nat → Option α} {body rest : List Byte}
    (read : takeNumber n body = some (i, rest)) (s : State) (act : Nat → α → Answer) {later : List (Prop × List Byte)}
    (checks : ∀ r, i < limit → find i = some r → FirstDecides (act i r) (fun fields => (s, fields)) later) :
    FirstDecides (withRecord n limit find body s act) (fun fields => (s, fields))
      ((limit ≤ i, [0x03]) :: (find i = none, [0x05]) :: later) := by
  refine ⟨fun beyond => withRecord_of_outOfRange read beyond s act, fun inRange => ?_⟩
  rw [Nat.not_le] at inRange
  refine ⟨fun missing => withRecord_of_notConfigured read inRange missing s act, fun configured => ?_⟩
  obtain ⟨r, held⟩ := Option.ne_none_iff_exists'.mp configured
  rw [withRecord_of_configured read inRange held]
  exact checks r inRange held

/-! ### The checks of SET_GROUP -/

theorem huntOrderOf_isNone (b : Nat) : (huntOrderOf b).isNone = true ↔ 2 < b := by
  rw [huntOrderOf]
  (repeat' split) <;> simp <;> omega

/-- Two ranges overlap when they share a circuit (R19). -/
theorem overlaps_iff (a b : GroupConfig) :
    a.overlaps b = true ↔ ∃ i, a.firstCircuit ≤ i ∧ i < a.firstCircuit + a.circuitCount ∧ b.firstCircuit ≤ i ∧
      i < b.firstCircuit + b.circuitCount := by
  rw [GroupConfig.overlaps, decide_eq_true_eq]
  constructor
  · exact fun h => ⟨max a.firstCircuit b.firstCircuit, by omega, by omega, by omega, by omega⟩
  · rintro ⟨i, h1, h2, h3, h4⟩
    omega

theorem groupInUse_iff (s : State) (g : Nat) :
    s.groupInUse g = true ↔
      ∃ e ∈ s.tgm.circuits, e.2.owner = g ∧ (e.2.state.isBusy = true ∨ e.2.state.isGuard = true) := by
  simp [State.groupInUse, List.any_eq_true]

theorem movesRange_iff (old new : GroupConfig) :
    old.movesRange new = true ↔ old.firstCircuit ≠ new.firstCircuit ∨ old.circuitCount ≠ new.circuitCount := by
  simp [GroupConfig.movesRange]

/-- The group's fields that a live call relies on would change (R19 check 8). -/
def Group.changesUnder (old : Group) (c : GroupConfig) : Prop :=
  old.config.carrier ≠ c.carrier ∨ old.config.tariffClass ≠ c.tariffClass ∨ old.config.firstCircuit ≠ c.firstCircuit ∨
    old.config.circuitCount ≠ c.circuitCount

/-- The conditions of R19 after the length, each with the result that it is answered with. -/
def groupChecks (s : State) (f : GroupFields) : List (Prop × Result) :=
  [(512 ≤ f.index, .badIndex),
    (128 ≤ f.config.carrier ∨ 64 ≤ f.config.tariffClass ∨ 16384 ≤ f.config.firstCircuit, .badIndex),
    (f.config.circuitCount = 0 ∨ 480 < f.config.circuitCount ∨ 2 < f.huntByte ∨ 15 < f.config.deleteCount ∨
      BadDigits 0 8 f.config.insertDigits, .badValue),
    (16384 ≤ f.config.firstCircuit + f.config.circuitCount - 1, .badIndex),
    (s.account? f.config.carrier = none ∨ s.tariff? f.config.tariffClass = none, .notConfigured),
    (∃ e ∈ s.tgm.groups, e.1 ≠ f.index ∧ ∃ i, e.2.config.firstCircuit ≤ i ∧
      i < e.2.config.firstCircuit + e.2.config.circuitCount ∧ f.config.firstCircuit ≤ i ∧
      i < f.config.firstCircuit + f.config.circuitCount, .overlap),
    (∃ old, s.group? f.index = some old ∧ old.changesUnder f.config ∧
      ∃ e ∈ s.tgm.circuits, e.2.owner = f.index ∧ (e.2.state.isBusy = true ∨ e.2.state.isGuard = true), .inUse)]

/-- A result is the one of the first condition that holds, and none when none does. -/
def FirstResult (result : Option Result) : List (Prop × Result) → Prop
  | [] => result = none
  | (condition, r) :: later => (condition → result = some r) ∧ (¬ condition → FirstResult result later)

/-- The checks of R19 in their order. -/
theorem checkGroup_first (s : State) (f : GroupFields) : FirstResult (s.checkGroup f) (groupChecks s f) := by
  have limits : (decide (Config.carrierCount ≤ f.config.carrier) || decide (Config.classCount ≤ f.config.tariffClass) ||
      decide (Config.circuitCount ≤ f.config.firstCircuit)) = true ↔
      (128 ≤ f.config.carrier ∨ 64 ≤ f.config.tariffClass ∨ 16384 ≤ f.config.firstCircuit) := by
    simp only [Bool.or_eq_true, decide_eq_true_eq, or_assoc]
    rfl
  have values : (decide (f.config.circuitCount = 0) || decide (480 < f.config.circuitCount) || (huntOrderOf f.huntByte).isNone ||
      decide (15 < f.config.deleteCount) || !digitsIn 0 8 f.config.insertDigits) = true ↔
      (f.config.circuitCount = 0 ∨ 480 < f.config.circuitCount ∨ 2 < f.huntByte ∨ 15 < f.config.deleteCount ∨
        BadDigits 0 8 f.config.insertDigits) := by
    simp only [Bool.or_eq_true, decide_eq_true_eq, huntOrderOf_isNone, badDigits_iff, Bool.not_eq_true', or_assoc]
  have configured : ((s.account? f.config.carrier).isNone || (s.tariff? f.config.tariffClass).isNone) = true ↔
      (s.account? f.config.carrier = none ∨ s.tariff? f.config.tariffClass = none) := by
    simp only [Bool.or_eq_true, Option.isNone_iff_eq_none]
  have overlap : (s.tgm.groups.any fun e => decide (e.1 ≠ f.index) && e.2.config.overlaps f.config) = true ↔
      ∃ e ∈ s.tgm.groups, e.1 ≠ f.index ∧ ∃ i, e.2.config.firstCircuit ≤ i ∧
        i < e.2.config.firstCircuit + e.2.config.circuitCount ∧ f.config.firstCircuit ≤ i ∧
        i < f.config.firstCircuit + f.config.circuitCount := by
    simp only [List.any_eq_true, Bool.and_eq_true, decide_eq_true_eq, overlaps_iff]
  have inUse : ∀ old : Group, ((decide (old.config.carrier ≠ f.config.carrier) ||
      decide (old.config.tariffClass ≠ f.config.tariffClass) || old.config.movesRange f.config) && s.groupInUse f.index) = true ↔
      old.changesUnder f.config ∧
        ∃ e ∈ s.tgm.circuits, e.2.owner = f.index ∧ (e.2.state.isBusy = true ∨ e.2.state.isGuard = true) := fun old => by
    simp only [Bool.and_eq_true, Bool.or_eq_true, decide_eq_true_eq, movesRange_iff, groupInUse_iff, Group.changesUnder,
      or_assoc]
  rw [State.checkGroup]
  refine ⟨fun h => if_pos h, fun h1 => ⟨fun h => ?_, fun h2 => ⟨fun h => ?_, fun h3 => ⟨fun h => ?_, fun h4 => ⟨fun h => ?_,
    fun h5 => ⟨fun h => ?_, fun h6 => ⟨fun h => ?_, fun h7 => ?_⟩⟩⟩⟩⟩⟩⟩
  all_goals rw [if_neg (show ¬ Config.groupCount ≤ f.index from h1)]
  · rw [if_pos (limits.mpr h)]
  all_goals rw [if_neg (mt limits.mp h2)]
  · rw [if_pos (values.mpr h)]
  all_goals rw [if_neg (mt values.mp h3)]
  · rw [if_pos (show Config.circuitCount ≤ f.config.lastCircuit from h)]
  all_goals rw [if_neg (show ¬ Config.circuitCount ≤ f.config.lastCircuit from h4)]
  · rw [if_pos (configured.mpr h)]
  all_goals rw [if_neg (mt configured.mp h5)]
  · rw [if_pos (overlap.mpr h)]
  all_goals rw [if_neg (mt overlap.mp h6)]
  · obtain ⟨old, held, changes⟩ := h
    rw [held]
    exact if_pos ((inUse old).mpr changes)
  · cases held : s.group? f.index with
    | none => rfl
    | some old => exact if_neg fun changes => h7 ⟨old, held, (inUse old).mp changes⟩

theorem FirstResult.eq_none_iff {result : Option Result} {checks : List (Prop × Result)} (h : FirstResult result checks) :
    result = none ↔ ∀ check ∈ checks, ¬ check.1 := by
  induction checks with
  | nil => exact ⟨fun _ => nofun, fun _ => h⟩
  | cons check later ih =>
    rw [List.forall_mem_cons]
    constructor
    · rintro rfl
      have fails : ¬ check.1 := fun holds => Option.some_ne_none _ (h.1 holds).symm
      exact ⟨fails, (ih (h.2 fails)).mp rfl⟩
    · exact fun ⟨fails, rest⟩ => (ih (h.2 fails)).mpr rest

theorem exec_setGroup (number : Byte) (body : List Byte) (s : State) :
    exec (.setGroup number body) s = serve 0x04 number body handleSetGroup s := rfl

/-- A result of the checks is the refusal of the request. -/
theorem FirstResult.firstDecides {body : List Byte} {f : GroupFields} (read : readSetGroup body = some f) {s : State}
    {checks : List (Prop × Result)} (h : FirstResult (s.checkGroup f) checks) :
    FirstDecides (handleSetGroup body s) (fun fields => (s, fields)) (checks.map fun check => (check.1, [check.2.code])) := by
  induction checks with
  | nil => trivial
  | cons check later ih =>
    refine ⟨fun holds => ?_, fun fails => ih (h.2 fails)⟩
    simp only [handleSetGroup, read, h.1 holds]
    rfl

/-- Settles O24: the checks stand in the order of R19, and a group passes when none of their conditions holds. -/
theorem setGroupChecksOfR19 : Obligations.SetGroupChecksOfR19 := by
  unfold Obligations.SetGroupChecksOfR19
  refine ⟨fun s f => ?_, fun s number body takes => ⟨fun short => ?_, fun f read => ?_⟩⟩
  · rw [(checkGroup_first s f).eq_none_iff]
    simp only [groupChecks, List.forall_mem_cons, List.not_mem_nil, false_implies, implies_true, and_true, BadDigits,
      Group.changesUnder, not_or, not_exists, not_and, Nat.not_le, Nat.not_lt, Bool.not_eq_true, ← Option.isSome_iff_ne_none,
      ← ne_eq, Nat.pos_iff_ne_zero.symm, and_assoc, Nat.zero_le, true_and]
    rfl
  · refine refused_of_serve takes (exec_setGroup number body s) ?_
    rw [handleSetGroup, (readSetGroup_eq_none body).mpr short]
    rfl
  · exact refusedByFirst_of_serve takes (exec_setGroup number body s)
      ((checkGroup_first s.popRequest f).firstDecides read)

/-! ### SET_GROUP accepted -/

/-- The stored fields are the clamps of those sent: a later clamp is against the clamps before it (R20). -/
theorem eq_clamped_of_storedAs {sent stored : GroupConfig} (h : sent.storedAs stored) : stored = sent.clamped := by
  have k := sent.clamped_storedAs
  unfold GroupConfig.storedAs at h k
  have i1 : stored.i1 = sent.clamped.i1 := (congrArg GroupConfig.i1 h).trans (congrArg GroupConfig.i1 k).symm
  have i2 : stored.i2 = sent.clamped.i2 := by
    rw [congrArg GroupConfig.i2 h, congrArg GroupConfig.i2 k, i1]
  have tq : stored.tq = sent.clamped.tq := (congrArg GroupConfig.tq h).trans (congrArg GroupConfig.tq k).symm
  rw [i1, i2, tq] at h
  exact h.trans k.symm

/-- What an accepted SET_GROUP does with a new group: the range taken, the group written as the raise test leaves it (R21, R41). -/
theorem createGroup_eq (s : State) (g : Nat) (c : GroupConfig) :
    s.createGroup g c =
      ((s.setCircuits (claimRange g c (dropOwned g s.tgm.circuits))).putGroup g ((newGroup c s.now).tested s.now)).offerAll
        (strainOffered g 0 ((newGroup c s.now).tested s.now).level) := raiseTest_putGroup _ g _

theorem handleSetGroup_of_new {body : List Byte} {f : GroupFields} {s : State} (read : readSetGroup body = some f)
    (passes : s.checkGroup f = none) (missing : s.group? f.index = none) :
    handleSetGroup body s = accept (s.createGroup f.index f.config.clamped) (0 :: f.config.clamped.layout) := by
  simp only [handleSetGroup, read, passes, missing, putOptional, List.cons_append, List.nil_append]

theorem handleSetGroup_of_configured {body : List Byte} {f : GroupFields} {s : State} {old : Group}
    (read : readSetGroup body = some f) (passes : s.checkGroup f = none) (held : s.group? f.index = some old) :
    handleSetGroup body s =
      accept (s.rewriteGroup f.index old f.config.clamped) (1 :: (old.config.layout ++ f.config.clamped.layout)) := by
  simp only [handleSetGroup, read, passes, held, putOptional, List.cons_append]

/-- Settles O25: the created group and the range it takes, as the equation of the creation gives them. -/
theorem setGroupCreatesGroup : Obligations.SetGroupCreatesGroup := by
  unfold Obligations.SetGroupCreatesGroup
  intro s number body f c created takes read passes missing wf unowned stored made
  have clamped := eq_clamped_of_storedAs stored
  subst clamped
  have fresh : created = newGroup f.config.clamped s.popRequest.now := made
  subst fresh
  have answered := handleSetGroup_of_new (s := s.popRequest) read passes missing
  rw [createGroup_eq] at answered
  obtain ⟨l, next, served⟩ := served_next (offered := strainOffered f.index 0 _) takes (exec_setGroup number body s) answered
    (by rw [State.offerAll_lif]; rfl)
  refine ⟨_, next, served, rfl, State.group_putGroup_self _ _ _, fun h other => State.group_putGroup_ne _ _ _ h other,
    fun i => ?_⟩
  have kept : (s.circuit? i).filter (fun v => decide (v.owner ≠ f.index)) = s.circuit? i := by
    cases stands : s.circuit? i with
    | none => rfl
    | some circ =>
      have other := unowned (i, circ) (Table.mem_of_get? _ stands)
      simp [Option.filter, other]
  have circuit := circuit_claimed wf (g := f.index) (c := f.config.clamped) (keep := fun e => decide (e.2.owner ≠ f.index)) i
  rw [kept] at circuit
  refine circuit.trans ?_
  by_cases inside : f.config.clamped.firstCircuit ≤ i ∧ i < f.config.clamped.firstCircuit + f.config.clamped.circuitCount
  · rw [if_pos inside, if_pos (by simp [GroupConfig.inRange, inside]), claimed, if_neg]
    · rfl
    · intro own
      obtain ⟨circ, stands, owner⟩ := Option.map_eq_some_iff.mp own
      exact unowned (i, circ) (Table.mem_of_get? _ stands) owner
  · rw [if_neg inside, if_neg (by simpa [GroupConfig.inRange] using inside)]

/-- A rewritten group behind the raise test and the restart of its window (R22, R42, R47). -/
def Group.rewrittenAs (grp : Group) (c : GroupConfig) (idle busy now : Nat) : Group :=
  ((grp.rewritten c idle).tested now).beginWindow busy now

/-- What an accepted SET_GROUP does with a configured group. -/
theorem rewriteGroup_eq (s : State) (g : Nat) (grp : Group) (c : GroupConfig) :
    s.rewriteGroup g grp c =
      ((s.moveRange g grp.config c).putGroup g (grp.rewrittenAs c ((s.moveRange g grp.config c).idleCircuitCount g)
        ((s.moveRange g grp.config c).busyCount g) (s.moveRange g grp.config c).now)).offerAll
        (strainOffered g (grp.rewritten c ((s.moveRange g grp.config c).idleCircuitCount g)).level
          ((grp.rewritten c ((s.moveRange g grp.config c).idleCircuitCount g)).tested (s.moveRange g grp.config c).now).level) := by
  simp only [State.rewriteGroup]
  generalize s.moveRange g grp.config c = moved
  rw [raiseTest_putGroup]
  generalize strainOffered g _ _ = offers
  have stands : ((moved.putGroup g ((grp.rewritten c (moved.idleCircuitCount g)).tested moved.now)).offerAll offers).group? g =
      some ((grp.rewritten c (moved.idleCircuitCount g)).tested moved.now) := State.group_putGroup_self _ _ _
  rw [State.restartWindow, State.modifyGroup_of_group stands]
  have twice := State.putGroup_putGroup moved g ((grp.rewritten c (moved.idleCircuitCount g)).tested moved.now)
    (grp.rewrittenAs c (moved.idleCircuitCount g) (moved.busyCount g) moved.now)
  exact congrArg (fun u : State => u.offerAll offers) twice

/-- The circuits after the range has moved: those inside are the group's, those outside are no more (R22). -/
theorem circuit_moveRange {s : State} (wf : s.tgm.circuits.wf = true) {g : Nat} {old new : GroupConfig}
    (moves : old.movesRange new = true) (i : Nat) :
    (s.moveRange g old new).circuit? i =
      if new.inRange i = true then
        (match s.circuit? i with
          | some circ => if circ.owner = g then some circ else some (freshCircuit g)
          | none => some (freshCircuit g))
      else
        (match s.circuit? i with
          | some circ => if circ.owner = g then none else some circ
          | none => none) := by
  rw [State.moveRange, if_pos moves]
  refine (circuit_claimed wf (g := g) (c := new) (keep := fun e => decide (e.2.owner ≠ g) || new.inRange e.1) i).trans ?_
  cases s.circuit? i with
  | none => rfl
  | some circ =>
    by_cases inside : new.inRange i = true <;> by_cases own : circ.owner = g <;>
      simp [inside, own, Option.filter, claimed]

/-- The fields of a rewritten group: the idle count it has afterwards decides its level (R22, R41, R47, R51). -/
theorem Group.rewrittenAs_eq (grp : Group) (c : GroupConfig) {idle count : Nat} (busy now : Nat)
    (counted : idle = if grp.config.movesRange c = true then count else grp.idleCount) :
    grp.rewrittenAs c count busy now =
        { grp with
          config := c, idleCount := idle, level := max grp.level (c.raiseLevel idle),
          rotatePosition := if grp.config.firstCircuit ≠ c.firstCircuit ∨ grp.config.circuitCount ≠ c.circuitCount
            then c.firstCircuit + c.circuitCount - 1 else grp.rotatePosition,
          window := { seizures := 0, overflows := 0, answers := 0, minIdle := idle, maxBusy := busy },
          windowTimer := if c.windowLength = 0 then none else some (now + c.windowLength * 1000),
          escalationTimer :=
            if grp.level < 3 ∧ c.raiseLevel idle = 3 then some (now + c.te * 1000) else grp.escalationTimer } ∧
      (grp.rewritten c count).level = grp.level ∧
      ((grp.rewritten c count).tested now).level = max grp.level (c.raiseLevel idle) := by
  subst counted
  rw [Group.rewrittenAs, Group.rewritten]
  by_cases moves : grp.config.movesRange c = true
  · simp only [if_pos moves, if_pos ((movesRange_iff _ _).mp moves)]
    exact ⟨rfl, trivial, rfl⟩
  · simp only [if_neg moves, if_neg (mt (movesRange_iff _ _).mpr moves)]
    exact ⟨rfl, trivial, rfl⟩

/-- Settles O26: the range moved or kept, the fields of the group as the raise test and the restart of the window leave them. -/
theorem setGroupRewritesGroup : Obligations.SetGroupRewritesGroup := by
  unfold Obligations.SetGroupRewritesGroup
  intro s number body f c old takes read passes held wf stored
  have clamped := eq_clamped_of_storedAs stored
  have answered := handleSetGroup_of_configured (s := s.popRequest) read passes held
  rw [← clamped, rewriteGroup_eq] at answered
  obtain ⟨moved, moves⟩ : ∃ u, u = s.popRequest.moveRange f.index old.config c := ⟨_, rfl⟩
  obtain ⟨idle, counted⟩ :
      ∃ n, n = if old.config.movesRange c = true then moved.idleCircuitCount f.index else old.idleCount := ⟨_, rfl⟩
  have frame : moved = { s.popRequest with tgm := { s.tgm with circuits := moved.tgm.circuits } } := by
    rw [moves, State.moveRange]
    split <;> rfl
  have time : moved.now = s.tmb.now := by rw [frame]; rfl
  have others : ∀ h, moved.group? h = s.group? h := fun h => by rw [frame]; rfl
  have lif : moved.lif = s.popRequest.lif := by rw [frame]
  rw [← moves, time] at answered
  obtain ⟨written, before, after⟩ := old.rewrittenAs_eq c (moved.busyCount f.index) s.tmb.now counted
  rw [before, after] at answered
  obtain ⟨l, next, served⟩ := served_next (offered := strainOffered f.index old.level (max old.level (c.raiseLevel idle))) takes
    (exec_setGroup number body s) answered (by rw [State.offerAll_lif, State.putGroup_lif, lif])
  refine ⟨_, old.config.movesRange c = true, idle, next, movesRange_iff _ _, fun moving => ?_, fun staying => ?_, served, ?_, ?_,
    fun h other => (State.group_putGroup_ne _ _ _ h other).trans (others h)⟩
  · have circuit := circuit_moveRange (s := s.popRequest) wf (g := f.index) moving
    rw [← moves] at circuit
    rw [if_pos moving] at counted
    refine ⟨counted, fun i low high => (circuit i).trans ?_, fun i outside => (circuit i).trans ?_⟩
    · rw [if_pos (by simp [GroupConfig.inRange, low, high])]
      rfl
    · rw [if_neg (by simpa [GroupConfig.inRange] using outside)]
      rfl
  · rw [if_neg staying] at counted
    refine ⟨counted, ?_⟩
    have kept : moved.tgm.circuits = s.tgm.circuits := by rw [moves, State.moveRange, if_neg staying]; rfl
    exact kept
  · rw [frame]
    rfl
  · refine (State.group_putGroup_self _ _ _).trans ?_
    rw [written]
    rfl

/-! ### DEL_GROUP and SERVICE -/

theorem exec_delGroup (number : Byte) (body : List Byte) (s : State) :
    exec (.delGroup number body) s = serve 0x05 number body handleDelGroup s := rfl

theorem exec_service (number : Byte) (body : List Byte) (s : State) :
    exec (.service number body) s = serve 0x30 number body handleService s := rfl

theorem handleDelGroup_of_unused {body rest : List Byte} {g : Nat} {grp : Group} {s : State}
    (read : takeNumber 2 body = some (g, rest)) (inRange : g < 512) (held : s.group? g = some grp)
    (unused : s.groupInUse g = false) :
    handleDelGroup body s = accept (s.deleteGroup g) grp.config.layout := by
  have inRange : g < Config.groupCount := inRange
  rw [handleDelGroup, withRecord_of_configured read inRange held, if_neg (by rw [unused]; nofun)]

theorem handleService_of_accepted {body : List Byte} {g target : Nat} {grp : Group} {service : ServiceState} {s : State}
    (read : readService body = some (g, target)) (inRange : g < 512) (held : s.group? g = some grp)
    (known : serviceTargetOf target = some service) :
    handleService body s = accept ((s.putGroup g (grp.serviced service)).releaseProbeOf grp) [grp.service.code] := by
  have inRange : ¬ Config.groupCount ≤ g := Nat.not_le_of_gt inRange
  simp only [handleService, read, if_neg inRange, held, known]

/-- The checks of SERVICE in their order (log 20). -/
theorem service_checks {body : List Byte} {g target : Nat} (read : readService body = some (g, target)) (s : State) :
    FirstDecides (handleService body s) (fun fields => (s, fields))
      [(512 ≤ g, [0x03]), (s.group? g = none, [0x05]), (1 < target, [0x04])] := by
  simp only [handleService, read]
  refine ⟨fun beyond => ?_, fun inRange => ⟨fun missing => ?_, fun configured => ⟨fun unknown => ?_, fun _ => trivial⟩⟩⟩
  · rw [if_pos (show Config.groupCount ≤ g from beyond)]
    rfl
  all_goals rw [if_neg (show ¬ Config.groupCount ≤ g from inRange)]
  · rw [missing]
    rfl
  · obtain ⟨grp, held⟩ := Option.ne_none_iff_exists'.mp configured
    have none : serviceTargetOf target = none := by
      rw [serviceTargetOf, if_neg (by omega), if_neg (by omega)]
    rw [held, none]
    rfl

/-- The group's probe call goes on as an ordinary call (R34, R102). -/
theorem releaseProbeOf_eq (s : State) (grp : Group) :
    s.releaseProbeOf grp = { s with ctb := (s.releaseProbeOf grp).ctb } ∧
      ∀ tag, (s.releaseProbeOf grp).call? tag =
        (s.call? tag).map fun c => if grp.probe = some tag then { c with probe := false } else c := by
  rw [State.releaseProbeOf]
  split
  next none =>
    refine ⟨rfl, fun tag => ?_⟩
    simp [none]
  next marked probe =>
    refine ⟨State.modifyCall_eq _ _ _, fun tag => ?_⟩
    rw [State.call_modifyCall]
    simp only [probe, Option.some.injEq, eq_comm]

/-- Settles O27: the checks are those of the handlers; the deletion and the override are the two writes of the group. -/
theorem groupDeletedOrServiced : Obligations.GroupDeletedOrServiced := by
  unfold Obligations.GroupDeletedOrServiced
  refine ⟨?deleted, ?serviced, fun s number body takes => ⟨fun short => ?delShort, fun g rest read => ?delChecks⟩,
    fun s number body takes => ⟨fun short => ?serviceShort, fun g target read => ?serviceChecks⟩⟩
  case deleted =>
    intro s number body rest g grp takes read inRange held quiet wf
    have unused : s.groupInUse g = false := by
      rw [← Bool.not_eq_true, groupInUse_iff]
      rintro ⟨e, he, owner, taken⟩
      obtain ⟨busy, guard⟩ := quiet e he owner
      rw [busy, guard] at taken
      rcases taken with h | h <;> cases h
    obtain ⟨l, next, served⟩ := served_next (offered := []) takes (exec_delGroup number body s)
      (handleDelGroup_of_unused (s := s.popRequest) read inRange held unused) rfl
    exact ⟨_, next, served, rfl, Table.get?_erase_self _ wf _, fun h other => Table.get?_erase_ne _ other, rfl⟩
  case serviced =>
    intro s number body g target grp takes read inRange held low
    have known : serviceTargetOf target = some (if target = 0 then .inService else .outOfService) := by
      rw [serviceTargetOf]
      split
      · rfl
      next => rw [if_pos (by omega)]
    obtain ⟨frame, calls⟩ := releaseProbeOf_eq (s.popRequest.putGroup g
      (grp.serviced (if target = 0 then .inService else .outOfService))) grp
    have answered := handleService_of_accepted (s := s.popRequest) read inRange held known
    rw [frame] at answered
    obtain ⟨l, next, served⟩ := served_next (offered := []) takes (exec_service number body s) answered rfl
    exact ⟨_, next, served, rfl, State.group_putGroup_self _ _ _, fun h other => State.group_putGroup_ne _ _ _ h other,
      calls⟩
  case delShort =>
    exact refused_of_serve takes (exec_delGroup number body s) (withRecord_of_short short _ _)
  case delChecks =>
    refine refusedByFirst_of_serve takes (exec_delGroup number body s) (withRecord_checks read _ _ fun grp _ _ => ?_)
    exact ⟨fun taken => if_pos ((groupInUse_iff _ _).mpr taken), fun _ => trivial⟩
  case serviceShort =>
    refine refused_of_serve takes (exec_service number body s) ?_
    rw [handleService, (readService_eq_none body).mpr short]
    rfl
  case serviceChecks => exact refusedByFirst_of_serve takes (exec_service number body s) (service_checks read s.popRequest)

end Sys2Proof.Machine
end

section
/-! PROOFS. BLOCK, UNBLOCK and READ_CIRCUIT, the close of a guard and the release of a circuit (R25, R29 to R33), the expiry of a window
(R45, R46, R49, R52), and the restoral timers (R101, R106, R108). -/

namespace Sys2Proof.Machine

/-! ### BLOCK and UNBLOCK -/

theorem putFlag_eq (b : Bool) : putFlag b = [if b then 1 else 0] := by cases b <;> rfl

theorem exec_block (number : Byte) (body : List Byte) (s : State) :
    exec (.block number body) s = serve 0x31 number body handleBlock s := rfl

theorem exec_unblock (number : Byte) (body : List Byte) (s : State) :
    exec (.unblock number body) s = serve 0x32 number body handleUnblock s := rfl

theorem handleBlock_of_circuit {body rest : List Byte} {i : Nat} {circ : Circuit} {s : State}
    (read : takeNumber 2 body = some (i, rest)) (inRange : i < 16384) (stands : s.circuit? i = some circ) :
    handleBlock body s = accept (s.blockCircuit i circ) ((s.blockCircuit i circ).circuitStanding i) :=
  withRecord_of_configured read inRange stands _ _

theorem handleUnblock_of_circuit {body rest : List Byte} {i : Nat} {circ : Circuit} {s : State}
    (read : takeNumber 2 body = some (i, rest)) (inRange : i < 16384) (stands : s.circuit? i = some circ) :
    handleUnblock body s = accept (s.unblockCircuit i circ) ((s.unblockCircuit i circ).circuitStanding i) :=
  withRecord_of_configured read inRange stands _ _

theorem circuitStanding_of_circuit {s : State} {i : Nat} {circ : Circuit} (stands : s.circuit? i = some circ) :
    s.circuitStanding i = [circ.state.code, if circ.blockPending then 1 else 0] := by
  rw [State.circuitStanding, stands]
  simp only [Circuit.standing, putFlag_eq]

/-- The circuit just written, read back: nothing but the table of circuits is consulted. -/
theorem circuitStanding_putCircuit_self (s : State) (i : Nat) (circ : Circuit) :
    (s.putCircuit i circ).circuitStanding i = [circ.state.code, if circ.blockPending then 1 else 0] :=
  circuitStanding_of_circuit (State.circuit_putCircuit_self s i circ)

theorem circuitStanding_putGroup (s : State) (g : Nat) (grp : Group) (i : Nat) :
    (s.putGroup g grp).circuitStanding i = s.circuitStanding i := rfl

theorem circuitStanding_offerAll (s : State) (offered : List Advisory) (i : Nat) :
    (s.offerAll offered).circuitStanding i = s.circuitStanding i := rfl

/-- An IDLE circuit is blocked: its group loses it, and the raise test is run (R31, R41, R44). -/
theorem blockCircuit_idle_eq {s : State} {i : Nat} {circ : Circuit} {grp : Group} (idle : circ.state = .idle)
    (held : s.group? circ.owner = some grp) :
    s.blockCircuit i circ =
      ((s.putCircuit i { circ with state := .blocked }).putGroup circ.owner (grp.loseIdle.tested s.now)).offerAll
        (strainOffered circ.owner grp.level (grp.loseIdle.tested s.now).level) := by
  have held : (s.putCircuit i { circ with state := .blocked }).group? circ.owner = some grp := held
  rw [blockCircuit_of_idle idle, State.modifyGroup_of_group held, raiseTest_putGroup]
  rfl

/-- A BLOCKED circuit is unblocked: its group gains it (R32, R44). -/
theorem unblockCircuit_blocked_eq {s : State} {i : Nat} {circ : Circuit} {grp : Group} (blocked : circ.state = .blocked)
    (held : s.group? circ.owner = some grp) :
    s.unblockCircuit i circ =
      (s.putCircuit i { circ with state := .idle, blockPending := false }).putGroup circ.owner grp.gainIdle := by
  have held : (s.putCircuit i { circ with state := .idle, blockPending := false }).group? circ.owner = some grp := held
  rw [unblockCircuit_of_blocked blocked, State.modifyGroup_of_group held]

/-- Settles O28: each request acts by the state of the circuit, and its reply is the circuit read back. -/
theorem circuitBlockedAndUnblocked : Obligations.CircuitBlockedAndUnblocked := by
  unfold Obligations.CircuitBlockedAndUnblocked
  refine ⟨fun s number body rest i circ grp read inRange stands held => ⟨fun takes => ⟨fun idle => ?blockIdle, fun taken =>
    ?blockTaken, fun blocked => ?blockBlocked⟩, fun takes => ⟨fun blocked => ?unblockBlocked, fun other => ?unblockOther⟩⟩,
    fun s kind number body takes which => ⟨fun short => ?short, fun i rest read => ?checks⟩, fun c => by cases c <;> rfl⟩
  case blockIdle =>
    have answered := handleBlock_of_circuit (s := s.popRequest) read inRange stands
    rw [blockCircuit_idle_eq (s := s.popRequest) idle held, circuitStanding_offerAll, circuitStanding_putGroup,
      circuitStanding_putCircuit_self] at answered
    obtain ⟨l, next, served⟩ := served_next
      (offered := strainOffered circ.owner grp.level (max grp.level (grp.config.raiseLevel (grp.idleCount - 1)))) takes
      (exec_block number body s) answered (by rw [State.offerAll_lif]; rfl)
    exact ⟨_, next, served, rfl, rfl, State.group_putGroup_self _ _ _,
      fun h other => State.group_putGroup_ne _ _ _ h other⟩
  case blockTaken =>
    have answered := handleBlock_of_circuit (s := s.popRequest) read inRange stands
    rw [blockCircuit_of_taken taken, circuitStanding_putCircuit_self] at answered
    obtain ⟨l, next, served⟩ := served_next (offered := []) takes (exec_block number body s) answered rfl
    exact ⟨_, next, served, rfl⟩
  case blockBlocked =>
    have answered := handleBlock_of_circuit (s := s.popRequest) read inRange stands
    rw [blockCircuit_of_blocked blocked, circuitStanding_of_circuit (s := s.popRequest) stands, blocked] at answered
    obtain ⟨l, next, served⟩ := served_next (offered := []) takes (exec_block number body s) answered rfl
    exact ⟨_, next, served, rfl⟩
  case unblockBlocked =>
    have answered := handleUnblock_of_circuit (s := s.popRequest) read inRange stands
    rw [unblockCircuit_blocked_eq (s := s.popRequest) blocked held,
      circuitStanding_putGroup, circuitStanding_putCircuit_self] at answered
    obtain ⟨l, next, served⟩ := served_next (offered := []) takes (exec_unblock number body s) answered rfl
    exact ⟨_, next, served, rfl, rfl, State.group_putGroup_self _ _ _,
      fun h other => State.group_putGroup_ne _ _ _ h other⟩
  case unblockOther =>
    have answered := handleUnblock_of_circuit (s := s.popRequest) read inRange stands
    rw [unblockCircuit_of_other other, circuitStanding_putCircuit_self] at answered
    obtain ⟨l, next, served⟩ := served_next (offered := []) takes (exec_unblock number body s) answered rfl
    exact ⟨_, next, served, rfl⟩
  case short =>
    rcases which with rfl | rfl
    · exact refused_of_serve takes (exec_block number body s) (withRecord_of_short short _ _)
    · exact refused_of_serve takes (exec_unblock number body s) (withRecord_of_short short _ _)
  case checks =>
    rcases which with rfl | rfl
    · exact refusedByFirst_of_serve takes (exec_block number body s) (withRecord_checks read _ _ fun _ _ _ => trivial)
    · exact refusedByFirst_of_serve takes (exec_unblock number body s) (withRecord_checks read _ _ fun _ _ _ => trivial)

/-! ### The ending of a guard, and the release -/

theorem endGuard_idle_eq {s : State} {i : Nat} {circ : Circuit} {grp : Group} (clear : circ.blockPending = false)
    (held : s.group? circ.owner = some grp) :
    s.endGuard i circ = (s.putCircuit i { circ with state := .idle }).putGroup circ.owner grp.gainIdle := by
  have held : (s.putCircuit i { circ with state := .idle }).group? circ.owner = some grp := held
  rw [State.endGuard_idle clear, State.modifyGroup_of_group held]

theorem exec_guardExpiry_of_due {s : State} {i e : Nat} {circ : Circuit} (stands : s.circuit? i = some circ)
    (guarding : circ.state = .guarding e) (due : e ≤ s.tmb.now) :
    exec (.guardExpiry i) s = .next (s.endGuard i circ) := by
  have running : circ.state.expiry? = some e := by rw [guarding]; rfl
  have dispatch : exec (.guardExpiry i) s = execGuardExpiry i s := rfl
  rw [dispatch, execGuardExpiry, stands]
  simp only [timer_due running due, if_true]

theorem release_of_busy {s : State} {i tag : Nat} {circ : Circuit} {grp : Group} (stands : s.circuit? i = some circ)
    (busy : circ.state = .busy tag) (held : s.group? circ.owner = some grp) :
    s.release i = some (if grp.config.guardTime = 0 then s.endGuard i circ
      else s.putCircuit i { circ with state := .guarding (s.now + grp.config.guardTime) }) := by
  have taken : circ.state.isBusy = true := by rw [busy]; rfl
  simp only [State.release, stands, held, Option.bind_eq_bind, Option.bind_some, taken, if_true, Option.pure_def]
  split <;> rfl

/-- Settles O29: a due guard ends, and a release begins a guard or ends it at once. -/
theorem guardEndsAndRelease : Obligations.GuardEndsAndRelease := by
  unfold Obligations.GuardEndsAndRelease
  refine ⟨fun s i e circ grp stands guarding due held => ⟨fun pending => ?_, fun clear => ?_⟩,
    fun s i tag circ grp stands busy held => ⟨fun guarded => ?_, fun unguarded pending => ?_, fun unguarded clear => ?_⟩⟩
  · rw [exec_guardExpiry_of_due stands guarding due, State.endGuard_pending pending]
    rfl
  · rw [exec_guardExpiry_of_due stands guarding due, endGuard_idle_eq clear held]
    rfl
  · rw [release_of_busy stands busy held, if_neg (Nat.ne_of_gt guarded)]
    rfl
  · rw [release_of_busy stands busy held, if_pos unguarded, State.endGuard_pending pending]
    rfl
  · rw [release_of_busy stands busy held, if_pos unguarded, endGuard_idle_eq clear held]
    rfl

/-! ### READ_CIRCUIT -/

theorem exec_readCircuit (number : Byte) (body : List Byte) (s : State) :
    exec (.readCircuit number body) s = serve 0x44 number body handleReadCircuit s := rfl

/-- The record of a circuit with an owner, by its state (R33). -/
theorem circuitLayout_some (now : Nat) (c : Circuit) :
    circuitLayout now (some c) = 1 :: (putNumber 2 c.owner ++
      (match c.state with
       | .idle => [0, if c.blockPending then 1 else 0, 0, 0]
       | .guarding e => 1 :: (if c.blockPending then 1 else 0) :: 0 :: 1 :: putNumber 4 (e - now)
       | .busy tag => 2 :: (if c.blockPending then 1 else 0) :: 1 :: (putNumber 4 tag ++ [0])
       | .blocked => [3, if c.blockPending then 1 else 0, 0, 0])) := by
  obtain ⟨owner, state, pending⟩ := c
  cases state <;>
    simp only [circuitLayout, putOptional, putFlag_eq, CircuitState.code, CircuitState.tag?, CircuitState.expiry?, remainingTo,
      List.cons_append, List.nil_append, List.append_assoc]

/-- Settles O53: the record is answered as it stands. -/
theorem readCircuitReturnsRecord : Obligations.ReadCircuitReturnsRecord := by
  unfold Obligations.ReadCircuitReturnsRecord
  refine ⟨fun s number body takes short => ?_, fun s number body rest i takes read => ?_⟩
  · refine refused_of_serve takes (exec_readCircuit number body s) ?_
    rw [handleReadCircuit, (takeNumber_eq_none 2 body).mpr short]
    rfl
  · by_cases beyond : 16384 ≤ i
    · have answered : handleReadCircuit body s.popRequest = refuse s.popRequest .badIndex := by
        simp only [handleReadCircuit, read, if_pos (show Config.circuitCount ≤ i from beyond)]
      obtain ⟨l, next, served⟩ := served_next (offered := []) takes (exec_readCircuit number body s) answered rfl
      exact ⟨_, next, rfl, fun _ => served, fun inRange => absurd beyond (Nat.not_le_of_gt inRange),
        fun c inRange => absurd beyond (Nat.not_le_of_gt inRange)⟩
    · have answered : handleReadCircuit body s.popRequest =
          accept s.popRequest (circuitLayout s.tmb.now (s.circuit? i)) := by
        simp only [handleReadCircuit, read, if_neg (show ¬ Config.circuitCount ≤ i from beyond)]
        rfl
      obtain ⟨l, next, served⟩ := served_next (offered := []) takes (exec_readCircuit number body s) answered rfl
      refine ⟨_, next, rfl, fun out => absurd out beyond, fun _ missing => ?_, fun c _ stands => ?_⟩
      · rw [missing] at served
        exact served
      · rw [stands, circuitLayout_some] at served
        exact served

/-! ### The expiry of a window -/

/-- What a change of level queues and lifts, in one equation: STRAIN for a change, and behind a reported fall the gaps lifted
(R49, R52, R121). -/
theorem State.levelChanged_of_canonical {s : State} (plans : s.rsl.plans.wf = true) (gaps : gapsCanonical s.gpc.gaps) (g : Nat)
    (before after : Group) :
    s.levelChanged g before after = { s with
      lif := (strainOffered g before.level after.level ++
        if before.fallReported after then gapOffsOffered s g else []).foldl Lif.offer s.lif,
      gpc := { s.gpc with gaps := if before.fallReported after then gapsAfterFall s g else s.gpc.gaps } } := by
  rw [State.levelChanged]
  by_cases same : after.level = before.level
  · have silent : before.fallReported after = false := by simp [Group.fallReported, same]
    simp only [if_pos same, silent, strainOffered]
    rfl
  · rw [if_neg same]
    cases reported : before.fallReported after with
    | false =>
      simp only [strainOffered, if_neg same]
      rfl
    | true =>
      rw [if_pos rfl, fallReport_eq (s := s.offer (.strain g after.level)) plans gaps]
      simp only [strainOffered, if_neg same]
      rfl

theorem exec_windowExpiry_of_due {s : State} {g e : Nat} {grp : Group} (held : s.group? g = some grp)
    (timer : grp.windowTimer = some e) (due : e ≤ s.tmb.now) :
    exec (.windowExpiry g) s = .next (s.windowEnds g grp) := by
  have dispatch : exec (.windowExpiry g) s = execWindowExpiry g s := rfl
  rw [dispatch, execWindowExpiry, held]
  simp only [timer_due timer due, if_true]

/-- Settles O31: the fall test, the record and the new window are the group written; the change of level says what is offered and
lifted. -/
theorem windowExpiryFallsAndRecords : Obligations.WindowExpiryFallsAndRecords := by
  unfold Obligations.WindowExpiryFallsAndRecords
  rintro s g e grp falls level ⟨_, plans, _, _, _, _, _, wf, distinct⟩ held timer due fallsIff rfl
  have falls_eq : falls = grp.falls := by
    rw [Bool.eq_iff_iff, fallsIff, Group.falls, Bool.and_eq_true, decide_eq_true_eq, decide_eq_true_eq]
    rfl
  have level : grp.afterFallTest.level = if falls = true then grp.level - 1 else grp.level := by
    rw [Group.afterFallTest, falls_eq]
    split <;> rfl
  have service : grp.afterFallTest.service = grp.service := by
    rw [Group.afterFallTest]
    split <;> rfl
  have reported : grp.fallReported grp.afterFallTest = true ↔
      falls = true ∧ (if falls = true then grp.level - 1 else grp.level) ≤ 1 ∧ grp.service = .inService := by
    rw [Group.fallReported, Bool.and_eq_true, Bool.and_eq_true, decide_eq_true_eq, decide_eq_true_eq, decide_eq_true_eq, level,
      service]
    cases falls with
    | false => simp
    | true =>
      have positive := (fallsIff.mp rfl).1
      simp only [if_true]
      constructor
      · exact fun ⟨⟨_, low⟩, open'⟩ => ⟨trivial, low, open'⟩
      · exact fun ⟨_, low, open'⟩ => ⟨⟨by omega, low⟩, open'⟩
  have ends := exec_windowExpiry_of_due held timer due
  rw [State.windowEnds, State.levelChanged_of_canonical (s := s.putGroup g _) plans ⟨wf, distinct⟩, level] at ends
  refine ⟨_, ends, rfl, (State.group_putGroup_self _ _ _).trans ?_, fun h other => State.group_putGroup_ne _ _ _ h other,
    fun fell low open' => ?_, fun quiet => ?_⟩
  · rw [falls_eq, Group.afterFallTest]
    cases grp.falls with
    | false => simp [Group.recordWindow, Group.beginWindow, msOfSeconds, State.now]
    | true => simp [Group.recordWindow, Group.beginWindow, msOfSeconds, State.now]
  · have positive := (fallsIff.mp fell).1
    simp only [if_pos (reported.mpr ⟨fell, low, open'⟩), if_pos fell, strainOffered]
    rw [if_neg (by omega)]
    exact ⟨rfl, rfl⟩
  · have silent : ¬ grp.fallReported grp.afterFallTest = true := by
      rw [reported]
      rintro ⟨fell, low, open'⟩
      rcases quiet with h | h | h
      · rw [h] at fell; cases fell
      · omega
      · exact h open'
    simp only [if_neg silent, List.append_nil]
    exact ⟨rfl, rfl⟩

/-! ### The restoral timers -/

/-- Settles O32: each timer that is due moves the trial on, and Tw ends it. -/
theorem restoralTimersMoveTrial : Obligations.RestoralTimersMoveTrial := by
  unfold Obligations.RestoralTimersMoveTrial
  refine fun s g e grp held due => ⟨fun suspended timer => ?_, fun quiet timer => ?_, fun trial timer => ?_⟩
  · have dispatch : exec (.tsExpiry g) s = execTsExpiry g s := rfl
    rw [dispatch, execTsExpiry, held]
    simp only [timer_due timer due, suspended, decide_true, Bool.and_self, if_true]
    rfl
  · have dispatch : exec (.tqExpiry g) s = execTqExpiry g s := rfl
    rw [dispatch, execTqExpiry, held]
    simp only [timer_due timer due, quiet, decide_true, Bool.and_self, if_true]
    rfl
  · have reopening : grp.service.reopening = true := by
      rcases trial with h | h | h <;> rw [h] <;> rfl
    have dispatch : exec (.twExpiry g) s = execTwExpiry g s := rfl
    obtain ⟨frame, calls⟩ := releaseProbeOf_eq (s.putGroup g (grp.lapsed s.now)) grp
    have ran : exec (.twExpiry g) s =
        .next (((s.putGroup g (grp.lapsed s.now)).releaseProbeOf grp).offer (.suspended g .reopenLapsed 0)) := by
      rw [dispatch, execTwExpiry, held]
      simp only [timer_due timer due, reopening, Bool.and_self, if_true]
    rw [frame] at ran
    exact ⟨_, ran, rfl, rfl, State.group_putGroup_self _ _ _, fun h other => State.group_putGroup_ne _ _ _ h other, calls⟩

end Sys2Proof.Machine
end

section
/-! PROOFS. Selection: the candidate test (R61 to R65), the search and its cause (R60, R66, R67, R73), the grant (R27, R28, R68 to R70) and
SEEK (R57 to R59, R71, R72, R74). -/

namespace Sys2Proof.Machine

/-! ### The candidate test -/

/-- Condition 2, as the manual words it (R62). -/
theorem Group.serviceOpen_iff (grp : Group) (cls : CallClass) :
    grp.serviceOpen cls = true ↔ grp.service = .inService ∨
      ((grp.service = .reopenFirst ∨ grp.service = .reopenSecond) ∧ grp.probe = none ∧ cls = .ordinary) := by
  simp only [Group.serviceOpen, Group.takesProbe, Bool.or_eq_true, Bool.and_eq_true, decide_eq_true_eq,
    Option.isNone_iff_eq_none, and_assoc]

/-- A group that is open takes a probe exactly when it is not IN_SERVICE (R62, R69). -/
theorem Group.takesProbe_of_open {grp : Group} {cls : CallClass} (opens : grp.serviceOpen cls = true) :
    grp.takesProbe cls = decide (grp.service ≠ .inService) := by
  rw [Group.serviceOpen, Bool.or_eq_true, decide_eq_true_eq] at opens
  rcases opens with open' | probe
  · simp [Group.takesProbe, open']
  · rw [probe]
    simp only [Group.takesProbe, Bool.and_eq_true, Bool.or_eq_true, decide_eq_true_eq] at probe
    obtain ⟨⟨reopening, -⟩, -⟩ := probe
    rcases reopening with h | h <;> rw [h] <;> rfl

theorem Group.alternateOpen_iff (grp : Group) (cls : CallClass) (position : Nat) :
    grp.alternateOpen cls position = true ↔
      position ≤ 1 ∨ cls = .priority ∨ (grp.config.reservation < grp.idleCount ∧ grp.level < 3) := by
  simp only [Group.alternateOpen, Bool.or_eq_true, Bool.and_eq_true, decide_eq_true_eq, or_assoc]

theorem underCeiling_iff (ceiling : Option Nat) (cls : CallClass) (rate : Nat) :
    underCeiling ceiling cls rate = true ↔ ∀ c, ceiling = some c → cls = .priority ∨ rate ≤ c := by
  cases ceiling with
  | none => simp [underCeiling]
  | some c => simp [underCeiling]

theorem acceptable_iff (outgoing : Digits) : acceptable outgoing = true ↔ 1 ≤ outgoing.length ∧ outgoing.length ≤ 20 := by
  rw [acceptable, Bool.and_eq_true, decide_eq_true_eq, decide_eq_true_eq]

section
variable {s : State} {ceiling : Option Nat} {cls : CallClass} {number : Digits} {position g rate : Nat} {grp : Group}

/-- A candidate that passes conditions 1 to 4 is tested at its present rate (R61). -/
theorem testCandidate_of_open (held : s.group? g = some grp) (opens : grp.serviceOpen cls = true) (idle : 0 < grp.idleCount)
    (alternate : grp.alternateOpen cls position = true) (priced : s.presentRate grp = some rate) :
    s.testCandidate ceiling cls number position g = some (grp.testPriced ceiling cls number position g rate) := by
  rw [State.testCandidate, held]
  simp only [opens, alternate, priced, Bool.not_true, Bool.false_eq_true, if_false, if_neg (Nat.ne_of_gt idle), Option.map_some]

end

theorem presentRate_of_records {s : State} {grp : Group} {t : TariffClass} {a : Account}
    (tariff : s.tariff? grp.config.tariffClass = some t) (account : s.account? grp.config.carrier = some a) :
    s.presentRate grp = some
      (ratePerMinute (stepCharge t.active.price grp.multiplier (a.config.factor a.running.steps))
        ((t.active.interval + 1) * 16 + t.active.fine)) := by
  rw [State.presentRate, tariff, account]
  rfl

/-- Settles O34: the conditions of the test in their order, the present multiplier, and the present rate. -/
theorem candidateTestConditions : Obligations.CandidateTestConditions := by
  unfold Obligations.CandidateTestConditions
  refine ⟨fun s ceiling cls number position g => ⟨fun missing => ?_, ?_⟩, fun grp => ?_,
    fun s grp t a tariff account => presentRate_of_records tariff account⟩
  · rw [State.testCandidate, missing]
  · rintro grp opens outgoing held opensIff rfl
    have opens_eq : opens = grp.serviceOpen cls := by rw [Bool.eq_iff_iff, opensIff, Group.serviceOpen_iff]
    subst opens_eq
    refine ⟨fun shut => ?_, fun opens empty => ?_, fun opens idle alternate other strained => ?_,
      fun opens idle alternate rate priced => ?_⟩
    · simp only [State.testCandidate, held, shut, Bool.not_false, if_true]
    · simp only [State.testCandidate, held, opens, empty, Bool.not_true, Bool.false_eq_true, if_false, if_true]
    · have closed : grp.alternateOpen cls position = false := by
        rw [Bool.eq_false_iff, Ne, Group.alternateOpen_iff]
        rintro (direct | priority | ⟨room, calm⟩)
        · omega
        · exact other priority
        · omega
      simp only [State.testCandidate, held, opens, closed, Bool.not_true, Bool.not_false, Bool.false_eq_true, if_false, if_true,
        if_neg (Nat.ne_of_gt idle)]
    · rw [testCandidate_of_open held opens idle ((Group.alternateOpen_iff _ _ _).mpr alternate) priced, Group.testPriced]
      refine ⟨fun c limit other above => ?_, fun within => ?_⟩
      · have beyond : underCeiling ceiling cls rate = false := by
          rw [Bool.eq_false_iff, Ne, underCeiling_iff]
          intro within
          rcases within c limit with priority | below
          · exact other priority
          · omega
        rw [beyond]
        rfl
      · rw [(underCeiling_iff ceiling cls rate).mpr within]
        refine ⟨fun badLength => ?_, fun low high => ?_⟩
        · have refused : acceptable (grp.config.treat number) = false := by
            rw [Bool.eq_false_iff, Ne, acceptable_iff]
            rintro ⟨low, high⟩
            rw [GroupConfig.treat] at low high
            omega
          rw [refused]
          rfl
        · rw [(acceptable_iff (grp.config.treat number)).mpr ⟨low, high⟩, Group.takesProbe_of_open opens]
          rfl
  · refine ⟨fun h => ?_, fun h => ?_, fun h => ?_, fun h => ?_⟩ <;> rw [Group.multiplier, h] <;> rfl

/-! ### The search -/

theorem Plan.order_of_unsticky {p : Plan} {cls : CallClass} (other : cls ≠ .onward) (unsticky : p.hasSticky = false) :
    p.order cls = List.range' 1 p.choices.length := by
  rw [Plan.order, if_neg other, unsticky]
  rfl

theorem Plan.order_of_sticky {p : Plan} {cls : CallClass} {sp : Nat} (other : cls ≠ .onward) (sticky : p.hasSticky = true)
    (there : p.stickyPosition = some sp) :
    p.order cls = 1 :: sp :: (List.range' 2 (p.choices.length - 1)).filter (fun i => decide (i ≠ sp)) := by
  rw [Plan.order, if_neg other, sticky, there]
  rfl

/-- A group with its count of overflows left out of sight: all that a search keeps of it (R66). -/
def Group.sansOverflows (grp : Group) : Group := { grp with window := { grp.window with overflows := 0 } }

theorem sansOverflows_skip (s : State) (g : Nat) (c : Cause) (h : Nat) :
    ((s.skip g c).group? h).map Group.sansOverflows = (s.group? h).map Group.sansOverflows := by
  rw [State.skip]
  split
  · rw [State.group_modifyGroup, Option.map_map]
    congr 1
    funext grp
    simp only [Function.comp]
    split <;> rfl
  · rfl

/-- Along a search, nothing of a group changes but its count of overflows (R66). -/
theorem sansOverflows_search {plan : Plan} {cls : CallClass} {number : Digits} {order : List Nat} {seen : List Cause}
    {s t : State} {found : Found} (h : search plan cls number order seen s = some (t, found)) (g : Nat) :
    (t.group? g).map Group.sansOverflows = (s.group? g).map Group.sansOverflows := by
  induction order generalizing seen s with
  | nil =>
    obtain ⟨rfl, -⟩ := Prod.mk.inj (Option.some.inj h)
    rfl
  | cons position rest ih =>
    rw [search] at h
    split at h
    · exact ih h
    next g' choice =>
      split at h
      · cases h
      · obtain ⟨rfl, -⟩ := Prod.mk.inj (Option.some.inj h)
        rfl
      next c skipped => rw [ih h, sansOverflows_skip]

theorem skip_of_silent {c : Cause} (circuits : c ≠ .noCircuit) (strain : c ≠ .strained) (s : State) (g : Nat) :
    s.skip g c = s := by
  rw [State.skip, reportsOverflow]
  simp [circuits, strain]

theorem skip_of_overflow {c : Cause} (counted : c = .noCircuit ∨ c = .strained) {s : State} {g : Nat} {grp : Group}
    (held : s.group? g = some grp) : s.skip g c = s.putGroup g grp.countOverflow := by
  have reports : reportsOverflow c = true := by rcases counted with rfl | rfl <;> rfl
  rw [State.skip, if_pos reports, State.modifyGroup_of_group held]

/-- A candidate skipped for want of a circuit or for strain names a configured group (R61, R66). -/
theorem group_of_overflow {s : State} {ceiling : Option Nat} {cls : CallClass} {number : Digits} {position g : Nat} {c : Cause}
    (counted : c = .noCircuit ∨ c = .strained) (skipped : s.testCandidate ceiling cls number position g = some (.skipped c)) :
    ∃ grp, s.group? g = some grp := by
  cases held : s.group? g with
  | some grp => exact ⟨grp, rfl⟩
  | none =>
    rw [State.testCandidate, held] at skipped
    obtain rfl : Cause.unavailable = c := Tested.skipped.inj (Option.some.inj skipped)
    rcases counted with h | h <;> cases h

section
variable {plan : Plan} {cls : CallClass} {number : Digits} {position g : Nat} {rest : List Nat} {seen : List Cause} {s : State}

theorem search_cons_missing (missing : plan.choices[position - 1]? = none) :
    search plan cls number (position :: rest) seen s = search plan cls number rest seen s := by
  rw [search, missing]

theorem search_cons_usable {c : Candidate} (choice : plan.choices[position - 1]? = some g)
    (usable : s.testCandidate plan.ceiling cls number position g = some (.usable c)) :
    search plan cls number (position :: rest) seen s = some (s, .taken c) := by
  rw [search, choice]
  simp only [usable]

theorem search_cons_skipped {c : Cause} (choice : plan.choices[position - 1]? = some g)
    (skipped : s.testCandidate plan.ceiling cls number position g = some (.skipped c)) :
    search plan cls number (position :: rest) seen s = search plan cls number rest (c :: seen) (s.skip g c) := by
  rw [search, choice]
  simp only [skipped]

end

theorem place_of_usable {s : State} {ceiling : Option Nat} {cls : CallClass} {number : Digits} {position g : Nat}
    {c : Candidate} (usable : s.testCandidate ceiling cls number position g = some (.usable c)) :
    c.position = position ∧ c.group = g := by
  obtain ⟨grp, rate, -, -, -, -, -, -, -, rfl⟩ := testCandidate_eq_usable usable
  exact ⟨rfl, rfl⟩

/-- Settles O35: the order of the positions, what a search keeps, how each position is taken or skipped, and the cause. -/
theorem searchOrderAndCause : Obligations.SearchOrderAndCause := by
  unfold Obligations.SearchOrderAndCause
  refine ⟨fun p cls choices => ⟨fun onward => if_pos onward, fun other unsticky => ?_, fun sp other sticky two there => ?_⟩,
    fun plan cls number order seen s t found h => ⟨search_eq _ _ _ _ _ _ _ _ h, sansOverflows_search h, ?_⟩,
    fun plan cls number seen s => ⟨rfl, fun position rest => ⟨search_cons_missing, fun g choice => ⟨fun c usable =>
      ⟨search_cons_usable choice usable, place_of_usable usable⟩, fun c skipped => ⟨fun circuits strain => ?_,
      fun counted => ?_⟩⟩⟩⟩, fun conditions => ?_⟩
  · refine Plan.order_of_unsticky other (Plan.hasSticky_eq_false ?_)
    exact unsticky.imp_right fun one => by omega
  · exact Plan.order_of_sticky other ((Plan.hasSticky_iff p).mpr ⟨sticky, two⟩) there
  · rintro c rfl
    obtain ⟨position, g, there, choice, usable⟩ := search_taken h
    obtain ⟨rfl, rfl⟩ := place_of_usable usable
    exact ⟨there, choice, usable⟩
  · rw [search_cons_skipped choice skipped, skip_of_silent circuits strain]
  · obtain ⟨grp, held⟩ := group_of_overflow counted skipped
    refine ⟨grp, held, ?_⟩
    rw [search_cons_skipped choice skipped, skip_of_overflow counted held]
    rfl
  · simp only [chooseCause, List.contains_iff_mem]

/-! ### The grant -/

theorem keys_sorted {α : Type} {t : Table α} (wf : t.wf = true) : t.Pairwise (fun d e => d.1 < e.1) := by
  induction t with
  | nil => exact .nil
  | cons e t ih =>
    obtain ⟨above, wf⟩ := (Table.wf_cons e.1 e.2 t).mp wf
    exact .cons above (ih wf)

theorem idleCircuits_sorted {s : State} (wf : s.tgm.circuits.wf = true) (g : Nat) :
    (s.idleCircuits g).Pairwise (· < ·) :=
  List.pairwise_map.mpr ((keys_sorted wf).filter _)

theorem le_of_head? {l : List Nat} (sorted : l.Pairwise (· < ·)) {i j : Nat} (first : l.head? = some i) (there : j ∈ l) :
    i ≤ j := by
  obtain ⟨rest, rfl⟩ := List.head?_eq_some_iff.mp first
  rcases List.mem_cons.mp there with rfl | later
  · exact Nat.le_refl _
  · exact Nat.le_of_lt (List.rel_of_pairwise_cons sorted later)

theorem le_of_getLast? {l : List Nat} (sorted : l.Pairwise (· < ·)) {i j : Nat} (last : l.getLast? = some i) (there : j ∈ l) :
    j ≤ i := by
  obtain ⟨front, rfl⟩ := List.getLast?_eq_some_iff.mp last
  rcases List.mem_append.mp there with earlier | same
  · exact Nat.le_of_lt ((List.pairwise_append.mp sorted).2.2 j earlier i (List.mem_singleton_self i))
  · exact Nat.le_of_eq (List.mem_singleton.mp same)

/-- Which of the circuits the hunt chooses (R27): the lowest, the highest, or the first above the rotate position, else the lowest. -/
theorem huntAmong_chooses {order : HuntOrder} {rotate i : Nat} {idle : List Nat} (sorted : idle.Pairwise (· < ·))
    (chosen : huntAmong order rotate idle = some i) {j : Nat} (there : j ∈ idle) :
    (order = .ascending → i ≤ j) ∧ (order = .descending → j ≤ i) ∧
      (order = .rotating →
        (rotate < i ∧ (j ≤ rotate ∨ i ≤ j)) ∨ (i ≤ rotate ∧ j ≤ rotate ∧ i ≤ j)) := by
  cases order with
  | ascending => exact ⟨fun _ => le_of_head? sorted chosen there, nofun, nofun⟩
  | descending => exact ⟨nofun, fun _ => le_of_getLast? sorted chosen there, nofun⟩
  | rotating =>
    refine ⟨nofun, nofun, fun _ => ?_⟩
    rw [huntAmong, List.head?_append] at chosen
    cases above : (idle.filter fun c => decide (rotate < c)).head? with
    | some k =>
      rw [above] at chosen
      obtain rfl : k = i := Option.some.inj chosen
      refine .inl ⟨of_decide_eq_true (List.mem_filter.mp (List.mem_of_head? above)).2, ?_⟩
      rcases Nat.lt_or_ge rotate j with later | earlier
      · exact .inr (le_of_head? (sorted.filter _) above (List.mem_filter.mpr ⟨there, decide_eq_true later⟩))
      · exact .inl earlier
    | none =>
      rw [above] at chosen
      have below : j ≤ rotate := by
        have silent := List.filter_eq_nil_iff.mp (List.head?_eq_none_iff.mp above) j there
        simpa using silent
      refine .inr ⟨of_decide_eq_true (List.mem_filter.mp (List.mem_of_head? chosen)).2, below, ?_⟩
      exact le_of_head? (sorted.filter _) chosen (List.mem_filter.mpr ⟨there, decide_eq_true below⟩)

theorem plan_grantSticky (s : State) (plan position p : Nat) :
    (s.grantSticky plan position).plan? p =
      (s.plan? p).map (fun q => if p = plan then q.grantSticky position else q) := by
  rw [State.grantSticky]
  cases configured : s.plan? plan with
  | none =>
    by_cases same : p = plan
    · rw [same, configured]; rfl
    · simp only [if_neg same, Option.map_id']
  | some q =>
    by_cases same : p = plan
    · subst same
      simp only [configured, State.plan_putPlan_self, Option.map_some, if_true]
    · simp only [State.plan_putPlan_ne _ _ _ _ same, if_neg same, Option.map_id']

/-- A grant is made of a hunt, a seizure and the sticky position (R68). -/
theorem grant_eq_some {s t : State} {tag plan circuit : Nat} {cand : Candidate} (h : s.grant tag plan cand = some (t, circuit)) :
    ∃ grp, s.group? cand.group = some grp ∧
      huntAmong grp.config.hunt grp.rotatePosition (s.idleCircuits cand.group) = some circuit ∧
      t = (s.seize cand.group circuit tag (grp.hunted circuit tag cand.asProbe)).grantSticky plan cand.position := by
  simp only [State.grant, Option.bind_eq_bind, Option.bind_eq_some_iff, Option.pure_def, Option.some.injEq,
    Prod.mk.injEq] at h
  obtain ⟨grp, held, i, hunted, rfl, rfl⟩ := h
  exact ⟨grp, held, hunted, rfl⟩

/-- Settles O36: an IDLE circuit of the group lets the grant be made, and the hunt, the seizure and the sticky position are all that
it writes. -/
theorem grantHuntsAndSeizes : Obligations.GrantHuntsAndSeizes := by
  unfold Obligations.GrantHuntsAndSeizes
  refine ⟨fun s tag plan cand grp i circ held stands owner idle => ?_, fun s t tag plan circuit cand canonical granted => ?_⟩
  · have there : i ∈ s.idleCircuits cand.group := by
      rw [State.idleCircuits, List.mem_map]
      refine ⟨(i, circ), List.mem_filter.mpr ⟨Table.mem_of_get? _ stands, ?_⟩, rfl⟩
      simp [owner, idle, CircuitState.isIdle]
    obtain ⟨j, hunted⟩ := huntAmong_isSome grp.config.hunt grp.rotatePosition (List.ne_nil_of_mem there)
    simp only [State.grant, held, Option.bind_eq_bind, Option.bind_some, hunted, Option.pure_def, Option.isSome_some]
  · obtain ⟨-, -, -, wf, -⟩ := canonical
    obtain ⟨grp, held, hunted, made⟩ := grant_eq_some granted
    obtain ⟨circ, stands, owner, idle⟩ := (mem_idleCircuits wf _ _).mp (mem_of_huntAmong hunted)
    refine ⟨grp, circ, held, stands, owner, idle, fun j other standing owned free =>
      huntAmong_chooses (idleCircuits_sorted wf cand.group) hunted ((mem_idleCircuits wf _ _).mpr ⟨other, standing, owned, free⟩),
      grant_frame granted, ?_⟩
    have plans := plan_grantSticky (s.seize cand.group circuit tag (grp.hunted circuit tag cand.asProbe)) plan cand.position
    rw [← made] at plans
    rw [grantSticky_eq, seize_eq] at made
    rw [seize_eq] at plans
    rw [made] at plans ⊢
    exact ⟨rfl, State.group_putGroup_self _ _ _, fun h other => State.group_putGroup_ne _ _ _ h other, rfl, plans⟩

/-! ### SEEK -/

theorem exec_seek (number : Byte) (body : List Byte) (s : State) :
    exec (.seek number body) s = serveLaw 0x20 number body handleSeek s := rfl

theorem callClassOf_eq_none (b : Nat) : callClassOf b = none ↔ 2 < b := by
  rw [callClassOf]
  split
  · simp; omega
  · split
    · simp; omega
    · split
      · simp; omega
      · simp; omega

/-- The checks of SEEK, in their order (R57). -/
theorem seek_checks {body : List Byte} {f : SeekFields} (read : readSeek body = some f) (s : State) :
    FirstDecides (handleSeek body s) (fun fields => some (s, fields))
      [(f.tag = 0 ∨ BadDigits 1 16 f.number ∨ 2 < f.classByte, [0x04]), (128 ≤ f.incoming, [0x03]),
        (s.account? f.incoming = none, [0x0F]), ((s.call? f.tag).isSome = true, [0x09])] := by
  simp only [FirstDecides, handleSeek, read, badDigits_iff]
  refine ⟨fun bad => ?_, fun good => ?_⟩
  · by_cases early : (decide (f.tag = 0) || !digitsIn 1 16 f.number) = true
    · rw [if_pos early]
      rfl
    · have unknown : callClassOf f.classByte = none := by
        rw [callClassOf_eq_none]
        simp only [Bool.or_eq_true, decide_eq_true_eq, Bool.not_eq_true'] at early
        rcases bad with tag | digits | cls
        · exact absurd (.inl tag) early
        · exact absurd (.inr digits) early
        · exact cls
      rw [if_neg early, unknown]
      rfl
  · obtain ⟨tag, digits, known⟩ : f.tag ≠ 0 ∧ digitsIn 1 16 f.number = true ∧ ¬ 2 < f.classByte := by
      simpa only [not_or, Bool.not_eq_false] using good
    obtain ⟨cls, known⟩ := Option.ne_none_iff_exists'.mp (mt (callClassOf_eq_none f.classByte).mp known)
    rw [if_neg (by simp [tag, digits]), known]
    refine ⟨fun beyond => if_pos beyond, fun inRange => ?_⟩
    simp only [if_neg (show ¬ Config.carrierCount ≤ f.incoming from inRange)]
    refine ⟨fun missing => by rw [missing]; rfl, fun held => ?_⟩
    rw [if_neg (by simpa using held)]
    exact ⟨fun live => if_pos live, fun _ => trivial⟩

section
variable {s : State} {number : Byte} {body : List Byte} {f : SeekFields} {cls : CallClass}

/-- A SEEK that passes its checks goes to number analysis (R57, R58). -/
theorem handleSeek_of_accepted (read : readSeek body = some f) (tag : f.tag ≠ 0) (digits : digitsIn 1 16 f.number = true)
    (known : callClassOf f.classByte = some cls) (incoming : f.incoming < 128) (held : (s.account? f.incoming).isSome = true)
    (fresh : s.call? f.tag = none) : handleSeek body s = s.analyseSeek f cls := by
  simp only [handleSeek, read, known]
  rw [if_neg (by simp [tag, digits]), if_neg (show ¬ Config.carrierCount ≤ f.incoming from Nat.not_le_of_gt incoming),
    if_neg (by simpa using Option.isSome_iff_ne_none.mp held), if_neg (by simp [fresh])]

/-- No entry leads the number: the denial carries no plan (R58, R74). -/
theorem analyseSeek_of_noPrefix (unmatched : longestMatch f.number s.rsl.prefixes = none) :
    s.analyseSeek f cls = some (s, [0x12, 0x01, 0]) := by
  rw [State.analyseSeek, unmatched]
  rfl

section
variable {e : PrefixEntry} {plan : Plan} {gaps : Table Gap}

/-- Gap admission refuses the call (R59, R117). -/
theorem analyseSeek_of_gapped (matched : longestMatch f.number s.rsl.prefixes = some e) (configured : s.plan? e.plan = some plan)
    (other : cls ≠ .priority) (gapped : admission s.tmb.now f.number e.plan s.gpc.gaps = (false, gaps)) :
    s.analyseSeek f cls = some (s.setGaps gaps, 0x12 :: 0x02 :: 1 :: putNumber 2 e.plan) := by
  simp only [State.analyseSeek, matched, configured, Option.bind_eq_bind, Option.bind_some, if_neg other, State.now, gapped]
  rfl

/-- A call that gap admission lets in, or does not test, is searched for (R59, R67). -/
theorem analyseSeek_of_admitted (matched : longestMatch f.number s.rsl.prefixes = some e)
    (configured : s.plan? e.plan = some plan)
    (admitted : (cls = .priority ∧ gaps = s.gpc.gaps) ∨
      (cls ≠ .priority ∧ admission s.tmb.now f.number e.plan s.gpc.gaps = (true, gaps))) :
    s.analyseSeek f cls = (s.setGaps gaps).searchSeek f cls e.plan plan := by
  simp only [State.analyseSeek, matched, configured, Option.bind_eq_bind, Option.bind_some]
  rcases admitted with ⟨priority, rfl⟩ | ⟨other, passed⟩
  · rw [if_pos priority]
    rfl
  · simp only [if_neg other, State.now, passed, if_true]

end

/-- A search that takes no candidate denies the call with the cause it chooses (R73, R74). -/
theorem searchSeek_of_exhausted {plan : Plan} {index : Nat} {t : State} {conditions : List Cause}
    (searched : search plan cls f.number (plan.order cls) [] s = some (t, .exhausted conditions)) :
    s.searchSeek f cls index plan = some (t, 0x12 :: (chooseCause conditions).code :: 1 :: putNumber 2 index) := by
  rw [State.searchSeek, searched]
  rfl

/-- A search that takes a candidate grants the call (R68, R71, R72). -/
theorem searchSeek_of_taken {plan : Plan} {index circuit : Nat} {t u : State} {cand : Candidate} {grp : Group}
    (searched : search plan cls f.number (plan.order cls) [] s = some (t, .taken cand)) (held : t.group? cand.group = some grp)
    (granted : t.grant f.tag index cand = some (u, circuit)) :
    s.searchSeek f cls index plan =
      some (u.putCall f.tag (f.record cls index circuit cand grp s), 0x10 :: cand.grantFields circuit) := by
  have time : u.tmb = s.tmb := by rw [grant_frame granted, search_eq _ _ _ _ _ _ _ _ searched]
  have record : f.record cls index circuit cand grp u = f.record cls index circuit cand grp s := by
    simp only [SeekFields.record, State.now, time]
  simp only [State.searchSeek, searched, Option.bind_eq_bind, Option.bind_some, State.grantSeek, held, granted, record,
    Option.pure_def]
  rfl

end

/-- Settles O37: the group, the circuit and the record are those of the grant, and the reply carries its fields. -/
theorem seekGrantsCall : Obligations.SeekGrantsCall := by
  unfold Obligations.SeekGrantsCall
  intro s s1 s2 number body f cls e plan gaps cand grp circuit takes read tag digits known incoming account fresh matched
    configured admitted searched held granted
  have answered : handleSeek body s.popRequest = _ :=
    (handleSeek_of_accepted (s := s.popRequest) read tag digits known incoming account fresh).trans
      ((analyseSeek_of_admitted (s := s.popRequest) matched configured admitted).trans
        (searchSeek_of_taken searched held granted))
  rw [exec_seek, serveLaw_of_takes takes answered, Candidate.grantFields, putFlag_eq]
  rfl

/-- Settles O38: each denial with its cause and its plan, and the checks before them. -/
theorem seekDeniesCall : Obligations.SeekDeniesCall := by
  unfold Obligations.SeekDeniesCall
  refine ⟨fun s number body f cls takes read tag digits known incoming account fresh => ?_,
    fun s number body takes => ⟨fun short => ?_, fun f read => ?_⟩, fun c => by cases c <;> rfl⟩
  · have accepted := handleSeek_of_accepted (s := s.popRequest) read tag digits known incoming account fresh
    refine ⟨fun unmatched => ?_, fun e plan matched configured => ⟨fun gaps other gapped => ?_,
      fun gaps s1 conditions admitted searched => ?_⟩⟩
    · obtain ⟨l, next, served⟩ := servedLaw_next (offered := []) takes (exec_seek number body s)
        (accepted.trans (analyseSeek_of_noPrefix (s := s.popRequest) unmatched)) rfl
      exact ⟨_, next, served, rfl⟩
    · obtain ⟨l, next, served⟩ := servedLaw_next (offered := []) takes (exec_seek number body s)
        (accepted.trans (analyseSeek_of_gapped (s := s.popRequest) matched configured other gapped)) rfl
      exact ⟨_, next, served, rfl⟩
    · rw [exec_seek, serveLaw_of_takes takes (accepted.trans
        ((analyseSeek_of_admitted (s := s.popRequest) matched configured admitted).trans (searchSeek_of_exhausted searched)))]
      rfl
  · refine refused_of_serveLaw takes (exec_seek number body s) ?_
    rw [handleSeek, (readSeek_eq_none body).mpr short]
    rfl
  · exact refusedByFirst_of_serveLaw takes (exec_seek number body s) (seek_checks read s.popRequest)

end Sys2Proof.Machine
end

section
/-! PROOFS. Calls: the checks of their requests (R79), PROGRESS, CLEAR and the seizure timeout (R80, R84, R92), ANSWER (R81, R136), FAIL
and crankback (R87 to R91), and the prices (R127 to R132, R139). -/

namespace Sys2Proof.Machine

/-! ### A report, and the request taken from the queue -/

namespace State

theorem offer_popRequest (s : State) (a : Advisory) : s.popRequest.offer a = (s.offer a).popRequest := by
  have queued := Lif.offer_withQueues s.lif a s.lif.requests.tail s.lif.replies
  have requests : (s.lif.offer a).requests = s.lif.requests := foldl_offer_requests [a] s.lif
  have replies : (s.lif.offer a).replies = s.lif.replies := foldl_offer_replies [a] s.lif
  simp only [offer, popRequest, withLif, requests]
  rw [queued, ← replies]

theorem modifyGroup_popRequest (s : State) (g : Nat) (f : Group → Group) :
    s.popRequest.modifyGroup g f = (s.modifyGroup g f).popRequest := by
  rw [modifyGroup, modifyGroup, popRequest_group]
  cases s.group? g <;> rfl

theorem modifyCall_popRequest (s : State) (tag : Nat) (f : Call → Call) :
    s.popRequest.modifyCall tag f = (s.modifyCall tag f).popRequest := by
  rw [modifyCall, modifyCall, popRequest_call]
  cases s.call? tag <;> rfl

theorem countFaults_popRequest (s : State) (g : Nat) (grp : Group) (ev : CallEvent) :
    s.popRequest.countFaults g grp ev = (s.countFaults g grp ev).popRequest := by
  rw [countFaults, countFaults]
  cases ev.faultEffect with
  | keep => rfl
  | reset => rfl
  | rise =>
    cases grp.faultsSuspend with
    | true => exact (s.putGroup g _).offer_popRequest _
    | false => rfl

theorem applyEvidence_popRequest (s : State) (g : Nat) (held : ServiceState) (e : Evidence) :
    s.popRequest.applyEvidence g held e = (s.applyEvidence g held e).popRequest := by
  cases e with
  | success =>
    cases held with
    | reopenFirst => exact s.modifyGroup_popRequest g _
    | reopenSecond =>
      simp only [applyEvidence, popRequest_group]
      cases s.group? g with
      | none => rfl
      | some grp => exact (s.putGroup g _).offer_popRequest _
    | _ => rfl
  | failure =>
    cases held with
    | reopenQuiet => exact s.modifyGroup_popRequest g _
    | reopenSecond => exact s.modifyGroup_popRequest g _
    | _ => rfl
  | neither => rfl

/-- A report reads and writes nothing of the request queue, so it may be taken before or behind the request is (R82, R172). -/
theorem report_popRequest (s : State) (tag g : Nat) (ev : CallEvent) :
    s.popRequest.report tag g ev = (s.report tag g ev).map popRequest := by
  rw [report, report, popRequest_group]
  cases s.group? g with
  | none => rfl
  | some grp =>
    simp only [Option.bind_eq_bind, Option.bind_some, Option.pure_def, Option.map_some, countFaults_popRequest,
      applyEvidence_popRequest, endProbe, modifyGroup_popRequest, modifyCall_popRequest, Option.some.injEq]
    split
    · split <;> exact modifyGroup_popRequest _ _ _
    · split <;> rfl

theorem endGuard_popRequest (s : State) (i : Nat) (circ : Circuit) :
    s.popRequest.endGuard i circ = (s.endGuard i circ).popRequest := by
  rw [endGuard, endGuard]
  split
  · rfl
  · exact modifyGroup_popRequest (s.putCircuit i _) circ.owner Group.gainIdle

theorem release_popRequest (s : State) (i : Nat) : s.popRequest.release i = (s.release i).map popRequest := by
  rw [release, release, popRequest_circuit]
  cases s.circuit? i with
  | none => rfl
  | some circ =>
    simp only [Option.bind_eq_bind, Option.bind_some, popRequest_group]
    cases s.group? circ.owner with
    | none => rfl
    | some grp =>
      simp only [Option.bind_some, endGuard_popRequest]
      split
      · split <;> rfl
      · rfl

theorem reportRelease_popRequest (s : State) (tag g i : Nat) (ev : CallEvent) :
    s.popRequest.reportRelease tag g i ev = (s.reportRelease tag g i ev).map popRequest := by
  rw [reportRelease, reportRelease, report_popRequest]
  cases s.report tag g ev with
  | none => rfl
  | some r => exact r.release_popRequest i

end State

/-! ### What a report leaves -/

theorem Group.afterFaults_config (grp : Group) (ev : CallEvent) (now : Nat) : (grp.afterFaults ev now).config = grp.config := by
  rw [Group.afterFaults]
  (repeat' split) <;> rfl

theorem Group.afterEvidence_config (grp : Group) (held : ServiceState) (e : Evidence) (now : Nat) :
    (grp.afterEvidence held e now).config = grp.config := by
  cases e with
  | success => cases held <;> rfl
  | failure => cases held <;> rfl
  | neither => rfl

theorem Group.reported_config (grp : Group) (tag : Nat) (ev : CallEvent) (now : Nat) :
    (grp.reported tag ev now).config = grp.config :=
  (Group.afterEvidence_config _ _ _ _).trans (Group.afterFaults_config _ _ _)

/-- A report on a configured group is taken: it keeps the group's configuration, clears the probe flag of the group's probe, and
beside TGM and the advisories leaves everything as it was (R82, R103). -/
theorem report_of_group {s : State} {g : Nat} {grp : Group} (held : s.group? g = some grp) (tag : Nat) (ev : CallEvent) :
    ∃ r after, s.report tag g ev = some r ∧ r.group? g = some after ∧ after.config = grp.config ∧
      (∃ offered : List Advisory, r.lif = offered.foldl Lif.offer s.lif) ∧
      r.call? tag = (s.call? tag).map (fun c => { c with probe := if grp.probe = some tag then false else c.probe }) ∧
      r = { s with lif := r.lif, tgm := { s.tgm with groups := r.tgm.groups }, ctb := r.ctb } := by
  obtain ⟨u, edits, reported⟩ := report_eq held tag ev
  refine ⟨_, grp.reported tag ev s.now, reported, ?_, grp.reported_config tag ev s.now, ⟨grp.reportOffered tag g ev, ?_⟩, ?_,
    report_frame reported⟩
  · split
    · rw [State.modifyCall_group, edits.group]
    · exact edits.group
  · split
    · rw [State.modifyCall_lif, edits.frame]
    · rw [edits.frame]
  · have calls : u.call? tag = s.call? tag := by rw [edits.frame]; rfl
    split
    · simp only [State.call_modifyCall, calls, if_true]
    · simp only [calls, Option.map_id']

/-- A report and the release of a busy circuit of its group are taken (R82). -/
theorem reportRelease_of_busy {s : State} {g i busy : Nat} {grp : Group} {circ : Circuit} (held : s.group? g = some grp)
    (stands : s.circuit? i = some circ) (owner : circ.owner = g) (state : circ.state = .busy busy) (tag : Nat)
    (ev : CallEvent) :
    ∃ r, s.reportRelease tag g i ev = some r ∧ (∃ offered : List Advisory, r.lif = offered.foldl Lif.offer s.lif) ∧
      r = { s with lif := r.lif, tgm := r.tgm, ctb := r.ctb } := by
  obtain ⟨r, after, reported, left, -, offered, -, frame⟩ := report_of_group held tag ev
  have standing : r.circuit? i = some circ := by rw [frame]; exact stands
  have released := release_of_busy standing state (by rw [owner]; exact left)
  generalize (if after.config.guardTime = 0 then r.endGuard i circ else r.putCircuit i _) = u at released
  have kept := release_eq released
  refine ⟨u, by rw [State.reportRelease, reported]; exact released, ?_, ?_⟩
  · rw [kept]
    exact offered
  · rw [kept, frame]

/-! ### The checks of the requests -/

theorem exec_progress (number : Byte) (body : List Byte) (s : State) :
    exec (.progress number body) s = serveLaw 0x21 number body handleProgress s := rfl

theorem exec_answer (number : Byte) (body : List Byte) (s : State) :
    exec (.answer number body) s = serveLaw 0x22 number body handleAnswer s := rfl

theorem exec_fail (number : Byte) (body : List Byte) (s : State) :
    exec (.fail number body) s = serveLaw 0x23 number body handleFail s := rfl

theorem exec_clear (number : Byte) (body : List Byte) (s : State) :
    exec (.clear number body) s = serveLaw 0x24 number body handleClear s := rfl

section
variable {s : State} {kind number : Byte} {body rest : List Byte} {tag : Nat} {call : Call} {taken : CallState → Bool}
  {act : Nat → Call → Option Answer}

theorem withCall_of_live (read : takeNumber 4 body = some (tag, rest)) (nonzero : tag ≠ 0) (live : s.call? tag = some call) :
    withCall body s taken act = if taken call.state then act tag call else some (refuseState s tag call) := by
  simp only [withCall, read, if_neg nonzero, live]

theorem withCall_of_taken (read : takeNumber 4 body = some (tag, rest)) (nonzero : tag ≠ 0) (live : s.call? tag = some call)
    (takes : taken call.state = true) : withCall body s taken act = act tag call := by
  rw [withCall_of_live read nonzero live, if_pos takes]

/-- The checks of R79 that the requests with a tag alone share. -/
theorem withCall_checks {handle : List Byte → State → Option Answer} (takes : Takes s kind number body)
    (dispatch : exec (requestCommand kind number body) s = serveLaw kind number body handle s)
    (handles : ∀ u, ∃ act, handle body u = withCall body u taken act) :
    (body.length < 4 → Refused s kind number body [0x02]) ∧
    (∀ tag rest, takeNumber 4 body = some (tag, rest) →
      RefusedByFirst s kind number body
        [(tag = 0, [0x04]), (s.call? tag = none, 0x0A :: putNumber 4 tag)] ∧
      (∀ call, tag ≠ 0 → s.call? tag = some call → taken call.state = false →
        Refused s kind number body (0x0B :: (putNumber 4 tag ++ [call.state.code])))) := by
  obtain ⟨act, handled⟩ := handles s.popRequest
  refine ⟨fun short => ?_, fun tag rest read => ⟨?_, fun call nonzero live shut => ?_⟩⟩
  · refine refused_of_serveLaw takes dispatch ?_
    rw [handled, withCall, (takeNumber_eq_none 4 body).mpr short]
    rfl
  · refine refusedByFirst_of_serveLaw takes dispatch ?_
    simp only [FirstDecides, handled, withCall, read]
    refine ⟨fun zero => ?_, fun nonzero => ⟨fun missing => ?_, fun _ => trivial⟩⟩
    · rw [if_pos zero]
      rfl
    · rw [if_neg nonzero, State.popRequest_call, missing]
      rfl
  · refine refused_of_serveLaw takes dispatch ?_
    rw [handled, withCall_of_live (s := s.popRequest) read nonzero live, shut]
    rfl

end

theorem takesProgress_eq_false {state : CallState} : state.takesProgress = false ↔ state ≠ .seizing := by
  cases state <;> simp [CallState.takesProgress]

theorem takesAnswer_eq_false {state : CallState} : state.takesAnswer = false ↔ state = .answered := by
  cases state <;> simp [CallState.takesAnswer]

theorem failEventOf_eq_none (b : Nat) : failEventOf b = none ↔ b ≠ 8 ∧ b ≠ 9 ∧ b ≠ 10 := by
  rw [failEventOf]
  (repeat' split) <;> simp [*]

/-- The checks of FAIL, in their order (R79). -/
theorem fail_checks {body : List Byte} {tag cause flag : Nat} (read : readFail body = some (tag, cause, flag)) (s : State) :
    FirstDecides (handleFail body s) (fun fields => some (s, fields))
      [(tag = 0 ∨ (cause ≠ 8 ∧ cause ≠ 9 ∧ cause ≠ 10) ∨ 1 < flag, [0x04]),
        (s.call? tag = none, 0x0A :: putNumber 4 tag),
        (∃ call, s.call? tag = some call ∧ call.state = .answered, 0x0B :: (putNumber 4 tag ++ [2]))] := by
  simp only [FirstDecides, handleFail, read, ← failEventOf_eq_none]
  cases known : failEventOf cause with
  | none => exact ⟨fun _ => rfl, fun good => absurd (.inr (.inl rfl)) good⟩
  | some event =>
    obtain ⟨ev, cause⟩ := event
    by_cases bad : tag = 0 ∨ 1 < flag
    · have refused : (decide (tag = 0) || decide (1 < flag)) = true := by simpa using bad
      simp only [refused, if_true]
      exact ⟨fun _ => rfl, fun good => absurd (bad.imp_right .inr) good⟩
    · have passes : (decide (tag = 0) || decide (1 < flag)) = false := by simpa using bad
      simp only [passes, Bool.false_eq_true, if_false]
      refine ⟨fun h => absurd (h.imp_right fun h => h.resolve_left nofun) bad, fun _ => ⟨fun missing => ?_, fun _ =>
        ⟨?_, fun _ => trivial⟩⟩⟩
      · rw [missing]
        rfl
      · rintro ⟨call, live, answered⟩
        rw [live]
        simp only [answered, CallState.takesAnswer, Bool.false_eq_true, if_false, refuseState]
        rfl

/-- Settles O39: the checks shared by the requests that carry a tag alone, and those of FAIL. -/
theorem callRequestChecks : Obligations.CallRequestChecks := by
  unfold Obligations.CallRequestChecks
  refine ⟨fun s kind number body takes which => ?_, fun s number body takes => ⟨fun short => ?_, fun tag cause flag read =>
    refusedByFirst_of_serveLaw takes (exec_fail number body s) (fail_checks read s.popRequest)⟩⟩
  · rcases which with rfl | rfl | rfl
    · obtain ⟨short, checks⟩ := withCall_checks takes (exec_progress number body s) (fun u => ⟨u.progressCall, rfl⟩)
      refine ⟨short, fun tag rest read => ⟨(checks tag rest read).1, fun call nonzero live shut => ?_⟩⟩
      refine (checks tag rest read).2 call nonzero live (takesProgress_eq_false.mpr ?_)
      rcases shut with ⟨-, shut⟩ | ⟨other, -⟩
      · exact shut
      · exact absurd other (by decide)
    · obtain ⟨short, checks⟩ := withCall_checks takes (exec_answer number body s) (fun u => ⟨u.answerCall, rfl⟩)
      refine ⟨short, fun tag rest read => ⟨(checks tag rest read).1, fun call nonzero live shut => ?_⟩⟩
      refine (checks tag rest read).2 call nonzero live (takesAnswer_eq_false.mpr ?_)
      rcases shut with ⟨other, -⟩ | ⟨-, shut⟩
      · exact absurd other (by decide)
      · exact shut
    · obtain ⟨short, checks⟩ := withCall_checks takes (exec_clear number body s) (fun u => ⟨u.clearCall, rfl⟩)
      refine ⟨short, fun tag rest read => ⟨(checks tag rest read).1, fun call nonzero live shut => ?_⟩⟩
      rcases shut with ⟨other, -⟩ | ⟨other, -⟩ <;> exact absurd other (by decide)
  · refine refused_of_serveLaw takes (exec_fail number body s) ?_
    rw [handleFail, (readFail_eq_none body).mpr short]
    rfl

end Sys2Proof.Machine
end

section
/-! PROOFS. PROGRESS, CLEAR and the seizure timeout (R80, R84, R92), ANSWER (R81, R136), FAIL and crankback (R87 to R91), and the prices
(R127 to R132, R139). -/

namespace Sys2Proof.Machine

/-! ### PROGRESS, CLEAR and the seizure timeout -/

/-- The queues behind a request whose block leaves LIF as a state with the queues of the start would have it, but for the request
taken (R172). -/
theorem completed_lif {s r u : State} {offered : List Advisory} (lif : r.lif = offered.foldl Lif.offer s.lif)
    (left : u.lif = r.popRequest.lif) (kind number : Byte) (fields : List Byte) :
    (completed kind number (u, fields)).lif = { r.lif with
      requests := s.lif.requests.tail,
      replies := s.lif.replies ++
        [{ kind := kind ||| 0x80, number := number, body := (completed kind number (u, fields)).summaryByte :: fields }] } := by
  have requests : r.lif.requests = s.lif.requests := by rw [lif, foldl_offer_requests]
  have replies : r.lif.replies = s.lif.replies := by rw [lif, foldl_offer_replies]
  simp only [completed, State.reply_lif, replyKind, summaryByte_reply, left, State.popRequest_lif, requests, replies]

theorem progressCall_of_report {s r : State} {tag : Nat} {call : Call} (reported : s.report tag call.group .progress = some r) :
    s.popRequest.progressCall tag call =
      some (r.popRequest.modifyCall tag (fun c => { c with state := .alerting, supervision := none }),
        0x00 :: (putNumber 4 tag ++ [1])) := by
  rw [State.progressCall, State.report_popRequest, reported]
  rfl

theorem clearCall_of_reportRelease {s r : State} {tag : Nat} {call : Call}
    (reported : s.reportRelease tag call.group call.circuit .clear = some r) :
    s.popRequest.clearCall tag call =
      some (r.popRequest.eraseCall tag, 0x00 :: (putNumber 4 tag ++ [call.state.code] ++ putNumber 4 call.steps ++
        putNumber 5 call.payable ++ putNumber 5 call.receivable)) := by
  rw [State.clearCall, State.reportRelease_popRequest, reported]
  rfl

theorem exec_seizureSupervisionExpiry_of_due {s t : State} {tag e : Nat} {call : Call} (live : s.call? tag = some call)
    (seizing : call.state = .seizing) (timer : call.supervision = some e) (due : e ≤ s.tmb.now)
    (ends : s.superviseOut tag call = some t) : exec (.seizureSupervisionExpiry tag) s = .next t := by
  have dispatch : exec (.seizureSupervisionExpiry tag) s = execSeizureSupervisionExpiry tag s := rfl
  rw [dispatch, execSeizureSupervisionExpiry, live]
  simp only [timer_due timer due, seizing, decide_true, Bool.and_self, if_true, ends, occurs]

/-- Settles O40: the report is the same whether the request is still queued or not, and behind it stands the edit of the record. -/
theorem progressClearAndTimeout : Obligations.ProgressClearAndTimeout := by
  unfold Obligations.ProgressClearAndTimeout
  refine ⟨fun s number body rest tag call grp read nonzero live held => ⟨fun takes seizing => ?_, fun circ busy takes stands
    owner state => ?_⟩, fun s tag e call grp circ busy live seizing timer due held stands owner state => ?_,
    fun s tag g i ev => rfl⟩
  · obtain ⟨r, after, reported, -, -, ⟨offered, lif⟩, -, -⟩ := report_of_group held tag .progress
    have answered : handleProgress body s.popRequest = _ :=
      (withCall_of_taken (s := s.popRequest) read nonzero live (by rw [seizing]; rfl)).trans (progressCall_of_report reported)
    have ran := exec_progress number body s
    rw [serveLaw_of_takes takes answered] at ran
    refine ⟨r, _, reported, ran, ?_, completed_lif lif (State.modifyCall_lif _ _ _) 0x21 number _, fun other => ?_⟩
    · rw [completed, State.modifyCall_eq]
      rfl
    · rw [completed, State.reply_call, State.call_modifyCall]
      rfl
  · obtain ⟨r, reported, ⟨offered, lif⟩, -⟩ := reportRelease_of_busy held stands owner state tag .clear
    have answered : handleClear body s.popRequest = _ :=
      (withCall_of_taken (s := s.popRequest) read nonzero live rfl).trans (clearCall_of_reportRelease reported)
    have ran := exec_clear number body s
    rw [serveLaw_of_takes takes answered] at ran
    exact ⟨r, _, reported, ran, rfl, completed_lif lif rfl 0x24 number _⟩
  · obtain ⟨r, reported, -, -⟩ := reportRelease_of_busy held stands owner state tag .supervision
    refine ⟨r, reported, exec_seizureSupervisionExpiry_of_due live seizing timer due ?_⟩
    rw [State.superviseOut, reported]
    rfl

/-! ### ANSWER -/

/-- The running bank of one account behind the setup and the counts of an answer (R136 steps 1 and 2). -/
def Bank.setUp (b : Bank) (outgoing incoming : Prop) [Decidable outgoing] [Decidable incoming] (setup : Nat) : Bank :=
  let paid := if outgoing then (b.addPayable setup).addHandover else b
  if incoming then (paid.addReceivable setup).addTransit else paid

/-- The running bank of one account behind the whole accrual of an answer (R136). -/
def Bank.answered (b : Bank) (outgoing incoming : Prop) [Decidable outgoing] [Decidable incoming] (setup step margin : Nat) :
    Bank :=
  let paid := if outgoing then (((b.addPayable setup).addHandover).addPayable step).addStep else b
  if incoming then ((paid.addReceivable setup).addTransit).addReceivable (step + margin) else paid

section
variable (b : Bank) (outgoing incoming : Prop) [Decidable outgoing] [Decidable incoming] (setup step margin : Nat)

theorem Bank.setUp_steps : (b.setUp outgoing incoming setup).steps = b.steps := by
  rw [Bank.setUp]
  split <;> split <;> rfl

/-- The order in which the answer's additions are made does not show, even on one account for both sides: each count and each
accumulator is added to alone. -/
theorem Bank.setUp_eq :
    (if incoming then
      (if outgoing then (if incoming then (if outgoing then b.addPayable setup else b).addReceivable setup
        else if outgoing then b.addPayable setup else b).addHandover
      else if incoming then (if outgoing then b.addPayable setup else b).addReceivable setup
      else if outgoing then b.addPayable setup else b).addTransit
    else
      if outgoing then (if incoming then (if outgoing then b.addPayable setup else b).addReceivable setup
        else if outgoing then b.addPayable setup else b).addHandover
      else if incoming then (if outgoing then b.addPayable setup else b).addReceivable setup
      else if outgoing then b.addPayable setup else b) = b.setUp outgoing incoming setup := by
  by_cases paid : outgoing
  · by_cases credited : incoming
    · simp only [Bank.setUp, if_pos paid, if_pos credited]; rfl
    · simp only [Bank.setUp, if_pos paid, if_neg credited]
  · by_cases credited : incoming
    · simp only [Bank.setUp, if_neg paid, if_pos credited]
    · simp only [Bank.setUp, if_neg paid, if_neg credited]

theorem Bank.answered_eq :
    (let paid := if outgoing then ((b.setUp outgoing incoming setup).addPayable step).addStep
      else b.setUp outgoing incoming setup
    if incoming then paid.addReceivable (step + margin) else paid) = b.answered outgoing incoming setup step margin := by
  by_cases paid : outgoing
  · by_cases credited : incoming
    · simp only [Bank.setUp, Bank.answered, if_pos paid, if_pos credited]; rfl
    · simp only [Bank.setUp, Bank.answered, if_pos paid, if_neg credited]
  · by_cases credited : incoming
    · simp only [Bank.setUp, Bank.answered, if_neg paid, if_pos credited]
    · simp only [Bank.setUp, Bank.answered, if_neg paid, if_neg credited]

end

/-- Accrual has run so far: every account's running bank is changed by a function of its carrier, and nothing else is (R136). -/
structure Accrued (s t : State) (f : Nat → Bank → Bank) : Prop where
  frame : t = s.setAccounts t.chu.accounts
  account : ∀ k, t.account? k = (s.account? k).map (fun a => a.onRunning (f k))

/-- One more addition to one carrier's bank (R136). -/
theorem Accrued.onBank {s t : State} {f : Nat → Bank → Bank} (h : Accrued s t f) {k : Nat} (held : (s.account? k).isSome = true)
    (add : Bank → Bank) :
    ∃ u, t.onBank k add = some u ∧ Accrued s u (fun j b => if j = k then add (f j b) else f j b) := by
  obtain ⟨a, held⟩ := Option.isSome_iff_exists.mp held
  obtain ⟨accounts, added, read⟩ := State.onBank_of_account ((h.account k).trans (congrArg _ held)) add
  refine ⟨_, added, ?_, fun j => ?_⟩
  · rw [h.frame]
    rfl
  · rw [State.account_setAccounts, read, h.account, Option.map_map]
    rfl

/-- The accrual of an answer (R136): setup, counts and the first step, which is priced at the tier before it. -/
theorem accrueAnswer_of_accounts {s : State} {outgoing incoming : Nat} {out inc : Account} {setup step multiplier : Nat}
    {v : TariffValues} (hout : s.account? outgoing = some out) (hinc : s.account? incoming = some inc)
    (setupIs : setup = setupCharge v.setup multiplier)
    (stepIs : step = stepCharge v.price multiplier (out.config.factor out.running.steps)) :
    ∃ t,
      s.accrueAnswer outgoing incoming v multiplier =
        some (t, { payable := setup + step, receivable := setup + (step + inc.config.margin) }) ∧
      Accrued s t (fun k b => b.answered (k = outgoing) (k = incoming) setup step inc.config.margin) := by
  have outIsSome : (s.account? outgoing).isSome = true := by rw [hout]; rfl
  have incIsSome : (s.account? incoming).isSome = true := by rw [hinc]; rfl
  have start : Accrued s s (fun _ b => b) := ⟨rfl, fun k => by cases s.account? k <;> rfl⟩
  obtain ⟨t1, paid, h⟩ := start.onBank outIsSome fun b => b.addPayable setup
  obtain ⟨t2, credited, h⟩ := h.onBank incIsSome fun b => b.addReceivable setup
  obtain ⟨t3, handed, h⟩ := h.onBank outIsSome Bank.addHandover
  obtain ⟨t4, passed, h⟩ := h.onBank incIsSome Bank.addTransit
  simp only [Bank.setUp_eq] at h
  obtain ⟨accounts, stepped, read⟩ := State.accrueStep_of_accounts ((h.account outgoing).trans (congrArg _ hout))
    ((h.account incoming).trans (congrArg _ hinc)) v.price multiplier (step := step)
    (by rw [stepIs]; simp only [Account.onRunning, Bank.setUp_steps])
  refine ⟨t4.setAccounts accounts, ?_, ?_, fun k => ?_⟩
  · subst setupIs
    simp only [State.accrueAnswer, paid, credited, handed, passed, Option.bind_eq_bind, Option.bind_some, stepped]
    rfl
  · rw [h.frame]
    rfl
  · rw [State.account_setAccounts, read, h.account, Option.map_map]
    congr 1
    funext a
    simp only [Function.comp, Account.onRunning, ← Bank.answered_eq]

/-- ANSWER on a call whose report is taken, with the accrual and the record it leaves (R81). -/
theorem answerCall_of_accrued {s r t : State} {tag outgoing : Nat} {call reportedCall : Call} {tariff : TariffClass}
    {amounts : Charged} (reported : s.report tag call.group .answer = some r)
    (priced : r.tariff? call.tariffClass = some tariff) (paid : r.outgoingOf call = some outgoing)
    (accrued : r.accrueAnswer outgoing call.incoming tariff.active call.multiplier = some (t, amounts))
    (live : t.call? tag = some reportedCall) {after : Call}
    (afterIs : after = reportedCall.answeredWith t.tmb.clock (t.now + tariff.active.intervalMs) amounts) :
    s.answerCall tag call = some (t.putCall tag after,
      0x00 :: (putNumber 4 tag ++ putNumber 4 after.steps ++ putNumber 5 after.payable ++ putNumber 5 after.receivable)) := by
  subst afterIs
  simp only [State.answerCall, reported, Option.bind_eq_bind, Option.bind_some, priced, paid, accrued, live, Option.pure_def]
  rfl

/-- Settles O41: the report, then the accrual on the two accounts, then the record. -/
theorem answerAccruesSetupAndFirstStep : Obligations.AnswerAccruesSetupAndFirstStep := by
  unfold Obligations.AnswerAccruesSetupAndFirstStep
  intro s number body rest tag call grp tariff out inc setup step takes read nonzero live open' held priced hout hinc setupIs stepIs
  obtain ⟨r, after, reported, left, config, ⟨offered, lif⟩, kept, frame⟩ := report_of_group held tag .answer
  have taken : call.state.takesAnswer = true := by rcases open' with h | h <;> rw [h] <;> rfl
  have reportedPopped : s.popRequest.report tag call.group .answer = some r.popRequest := by
    rw [State.report_popRequest, reported]
    rfl
  have outgoing : r.popRequest.outgoingOf call = some grp.config.carrier := by
    rw [State.outgoingOf, State.popRequest_group, left, ← config]
    rfl
  have priced : r.popRequest.tariff? call.tariffClass = some tariff := by rw [frame]; exact priced
  have hout : r.popRequest.account? grp.config.carrier = some out := by rw [frame]; exact hout
  have hinc : r.popRequest.account? call.incoming = some inc := by rw [frame]; exact hinc
  obtain ⟨t, accrued, h⟩ := accrueAnswer_of_accounts (v := tariff.active) hout hinc setupIs stepIs
  have standing : t.call? tag = some { call with probe := if grp.probe = some tag then false else call.probe } := by
    rw [h.frame]
    exact kept.trans (congrArg _ live)
  have time : t.tmb = s.tmb := by rw [h.frame, State.setAccounts_tmb, State.popRequest_tmb, frame]
  have answered : handleAnswer body s.popRequest = _ :=
    (withCall_of_taken (s := s.popRequest) read nonzero live taken).trans
      (answerCall_of_accrued reportedPopped priced outgoing accrued standing rfl)
  have ran := exec_answer number body s
  rw [serveLaw_of_takes takes answered] at ran
  refine ⟨r, _, _, reported, ran, ?_, ?_, fun k => ?_, completed_lif lif ?_ 0x22 number _⟩
  · rw [completed, h.frame, frame]
    rfl
  · rw [State.now, time]
    rfl
  · rw [completed, State.reply_account, State.putCall_account, h.account, frame]
    rfl
  · rw [State.putCall_lif, h.frame, State.setAccounts_lif]

/-! ### FAIL and crankback -/

/-- The conditions of R88, as the manual words them. -/
theorem continues_iff (plan : Plan) (call : Call) (ev : CallEvent) (reroute : Bool) :
    continues plan call ev reroute = true ↔ ev ≠ .farBusy ∧ reroute = true ∧ call.callClass ≠ .onward ∧
      call.attempts ≤ plan.crankbackLimit ∧ call.position + 1 ≤ plan.choices.length := by
  simp only [continues, Bool.and_eq_true, decide_eq_true_eq, and_assoc]

section
variable {s t r u : State} {tag : Nat} {call : Call} {ev : CallEvent} {cause : Cause} {plan : Plan} {reroute : Bool}

theorem handleFail_of_live {body : List Byte} {causeByte flag : Nat} (read : readFail body = some (tag, causeByte, flag))
    (nonzero : tag ≠ 0) (known : flag ≤ 1) (event : failEventOf causeByte = some (ev, cause)) (live : s.call? tag = some call)
    (unanswered : call.state ≠ .answered) : handleFail body s = s.failCall tag call ev cause (decide (flag = 1)) := by
  have good : (decide (tag = 0) || decide (1 < flag)) = false := by simp [nonzero, known]
  have taken : call.state.takesAnswer = true := by
    rw [← Bool.not_eq_false, takesAnswer_eq_false]
    exact unanswered
  simp only [handleFail, read, event, good, live, taken, Bool.false_eq_true, if_false, if_true]

theorem failCall_of_ended (released : s.reportRelease tag call.group call.circuit ev = some r)
    (configured : (r.failSticky call ev).plan? call.plan = some plan) (ends : continues plan call ev reroute = false) :
    s.failCall tag call ev cause reroute = some ((r.failSticky call ev).finalFail tag call cause) := by
  simp only [State.failCall, released, Option.bind_eq_bind, Option.bind_some, configured, ends, Bool.false_eq_true, if_false]
  rfl

theorem failCall_of_continued (released : s.reportRelease tag call.group call.circuit ev = some r)
    (configured : (r.failSticky call ev).plan? call.plan = some plan) (goesOn : continues plan call ev reroute = true) :
    s.failCall tag call ev cause reroute = (r.failSticky call ev).continueCall tag call plan := by
  simp only [State.failCall, released, Option.bind_eq_bind, Option.bind_some, configured, goesOn, if_true]

theorem continueCall_of_exhausted {conditions : List Cause}
    (searched : search plan call.callClass call.number (continuationOrder plan call) [] s = some (t, .exhausted conditions)) :
    s.continueCall tag call plan = some (t.finalFail tag call (chooseCause conditions)) := by
  rw [State.continueCall, searched]
  rfl

theorem continueCall_of_taken {cand : Candidate} {grp : Group} {circuit : Nat}
    (searched : search plan call.callClass call.number (continuationOrder plan call) [] s = some (t, .taken cand))
    (held : t.group? cand.group = some grp) (granted : t.grant tag call.plan cand = some (u, circuit)) :
    s.continueCall tag call plan =
      some (u.putCall tag (call.regranted circuit cand grp s),
        0x11 :: (cand.grantFields circuit ++ putNumber 4 tag ++ putNumber 1 (call.attempts + 1))) := by
  have time : u.tmb = s.tmb := by rw [grant_frame granted, search_eq _ _ _ _ _ _ _ _ searched]
  have record : call.regranted circuit cand grp u = call.regranted circuit cand grp s := by
    simp only [Call.regranted, State.now, time]
  simp only [State.continueCall, searched, Option.bind_eq_bind, Option.bind_some, State.regrant, held, granted, record,
    Option.pure_def]
  rfl

end

/-- Settles O42: FINAL at once, or behind a continuation that takes no candidate. -/
theorem failEndsCall : Obligations.FailEndsCall := by
  unfold Obligations.FailEndsCall
  intro s number body tag causeByte flag ev cause call grp circ busy takes read nonzero known event live unanswered held stands
    owner state
  have event : failEventOf causeByte = some (ev, cause) := by
    rcases event with ⟨rfl, rfl, rfl⟩ | ⟨rfl, rfl, rfl⟩ | ⟨rfl, rfl, rfl⟩ <;> rfl
  obtain ⟨r, released, -, -⟩ :=
    reportRelease_of_busy (s := s.popRequest) (g := call.group) (i := call.circuit) held stands owner state tag ev
  refine ⟨r, released, ?_⟩
  rintro r' plan rfl configured
  have accepted := handleFail_of_live (s := s.popRequest) read nonzero known event live unanswered
  refine ⟨fun ends => ?_, fun s1 conditions other reroute cls attempts position searched => ?_⟩
  · have ends : continues plan call ev (decide (flag = 1)) = false := by
      rw [Bool.eq_false_iff, Ne, continues_iff, decide_eq_true_eq]
      rintro ⟨other, reroute, cls, attempts, position⟩
      rcases ends with h | h | h | h | h
      · exact other h
      · omega
      · exact cls h
      · omega
      · omega
    rw [exec_fail, serveLaw_of_takes takes (accepted.trans (failCall_of_ended released configured ends))]
    rfl
  · have goesOn : continues plan call ev (decide (flag = 1)) = true :=
      (continues_iff _ _ _ _).mpr ⟨other, decide_eq_true reroute, cls, attempts, position⟩
    rw [exec_fail, serveLaw_of_takes takes (accepted.trans ((failCall_of_continued released configured goesOn).trans
      (continueCall_of_exhausted searched)))]
    rfl

/-- Settles O43: the continuation grants the call anew, under the tag and the plan it has. -/
theorem failContinuesCall : Obligations.FailContinuesCall := by
  unfold Obligations.FailContinuesCall
  intro s r r' s1 s2 number body tag causeByte ev call plan cand grp circuit takes read nonzero event live unanswered cls released
    moved configured attempts position searched held granted
  obtain ⟨other, cause, event⟩ : ev ≠ .farBusy ∧ ∃ cause, failEventOf causeByte = some (ev, cause) := by
    rcases event with ⟨rfl, rfl⟩ | ⟨rfl, rfl⟩
    · exact ⟨nofun, .farCongestion, rfl⟩
    · exact ⟨nofun, .circuitFault, rfl⟩
  have moved : r' = r.failSticky call ev := by rw [moved, State.failSticky, if_neg other]
  subst moved
  have time : (r.failSticky call ev).tmb = s.tmb := by
    simp only [State.reportRelease, Option.bind_eq_bind, Option.bind_eq_some_iff] at released
    obtain ⟨q, reported, released⟩ := released
    rw [failSticky_eq, release_eq released, report_frame reported]
    rfl
  have goesOn : continues plan call ev (decide (1 = 1)) = true :=
    (continues_iff _ _ _ _).mpr ⟨other, rfl, cls, attempts, position⟩
  rw [exec_fail, serveLaw_of_takes takes
    ((handleFail_of_live (s := s.popRequest) read nonzero (Nat.le_refl 1) event live unanswered).trans
      ((failCall_of_continued released configured goesOn).trans (continueCall_of_taken searched held granted))),
    Call.regranted, State.now, time, Candidate.grantFields, putFlag_eq]
  rfl

/-! ### Prices -/

theorem satAdd_of_le {largest value amount : Nat} (fits : value + amount ≤ largest) :
    satAdd largest value amount = value + amount := Nat.min_eq_right fits

theorem satAdd_of_lt {largest value amount : Nat} (beyond : largest < value + amount) :
    satAdd largest value amount = largest := Nat.min_eq_left (Nat.le_of_lt beyond)

theorem satAdd_one {largest value : Nat} (range : value ≤ largest) :
    satAdd largest value 1 = if value = largest then value else value + 1 := by
  rw [satAdd]
  split <;> omega

theorem tier_bounds (a : AccountConfig) (n : Nat) :
    (n < a.b1 → a.tier n = 0 ∧ a.factor n = a.t0) ∧
    (a.b1 ≤ n → n < a.b2 → a.tier n = 1 ∧ a.factor n = a.t1) ∧
    (a.b1 ≤ n → a.b2 ≤ n → n < a.b3 → a.tier n = 2 ∧ a.factor n = a.t2) ∧
    (a.b1 ≤ n → a.b2 ≤ n → a.b3 ≤ n → a.tier n = 3 ∧ a.factor n = a.t3) := by
  rw [AccountConfig.tier, AccountConfig.factor]
  refine ⟨fun h => ?_, fun h1 h2 => ?_, fun h1 h2 h3 => ?_, fun h1 h2 h3 => ?_⟩
  · rw [if_pos h, if_pos h]; exact ⟨rfl, rfl⟩
  · rw [if_neg (Nat.not_lt.mpr h1), if_neg (Nat.not_lt.mpr h1), if_pos h2, if_pos h2]; exact ⟨rfl, rfl⟩
  · rw [if_neg (Nat.not_lt.mpr h1), if_neg (Nat.not_lt.mpr h1), if_neg (Nat.not_lt.mpr h2), if_neg (Nat.not_lt.mpr h2),
      if_pos h3, if_pos h3]; exact ⟨rfl, rfl⟩
  · rw [if_neg (Nat.not_lt.mpr h1), if_neg (Nat.not_lt.mpr h1), if_neg (Nat.not_lt.mpr h2), if_neg (Nat.not_lt.mpr h2),
      if_neg (Nat.not_lt.mpr h3), if_neg (Nat.not_lt.mpr h3)]; exact ⟨rfl, rfl⟩

/-- The bounds of a product of a price and a multiplier, and of the step charge's three factors (R128, R130). -/
theorem priceProduct_le {p m : Nat} (price : p ≤ 65535) (multiplier : m ≤ 255) : p * m ≤ 16711425 :=
  Nat.mul_le_mul price multiplier

theorem stepProduct_le {p m t : Nat} (price : p ≤ 65535) (multiplier : m ≤ 255) (factor : t ≤ 255) :
    p * m * t ≤ 4261413375 := Nat.mul_le_mul (priceProduct_le price multiplier) factor

theorem ratePerMinute_bounds {c d : Nat} (interval : 16 ≤ d) :
    d * ratePerMinute c d ≤ c * 60000 + d / 2 ∧ c * 60000 + d / 2 < d * (ratePerMinute c d + 1) ∧
    (c ≤ 1040384 → ratePerMinute c d ≤ 3901440000) ∧ ratePerMinute c 16 = 3750 * c ∧ ratePerMinute c 60000 = c := by
  have positive : 0 < d := by omega
  refine ⟨Nat.mul_div_le _ _, Nat.lt_mul_div_succ _ positive, fun charge => ?_, ?_, ?_⟩
  · rw [ratePerMinute]
    exact Nat.le_of_lt_succ ((Nat.div_lt_iff_lt_mul positive).mpr (by omega))
  · rw [ratePerMinute]
    omega
  · rw [ratePerMinute]
    omega

theorem Bank.addPayable_of_le {b : Bank} {amount : Nat} (fits : b.payable + amount ≤ 68719476735) :
    b.addPayable amount = { b with payable := b.payable + amount } := by
  have within : passes b.payable amount = false := decide_eq_false (Nat.not_lt.mpr fits)
  rw [Bank.addPayable, satAdd_of_le (show _ ≤ Config.maxAccumulator from fits), within, Bool.or_false]

theorem Bank.addPayable_of_lt {b : Bank} {amount : Nat} (beyond : 68719476735 < b.payable + amount) :
    b.addPayable amount = { b with payable := 68719476735, payableMark := true } := by
  have past : passes b.payable amount = true := decide_eq_true beyond
  rw [Bank.addPayable, satAdd_of_lt (show Config.maxAccumulator < _ from beyond), past, Bool.or_true]
  rfl

theorem Bank.addReceivable_of_le {b : Bank} {amount : Nat} (fits : b.receivable + amount ≤ 68719476735) :
    b.addReceivable amount = { b with receivable := b.receivable + amount } := by
  have within : passes b.receivable amount = false := decide_eq_false (Nat.not_lt.mpr fits)
  rw [Bank.addReceivable, satAdd_of_le (show _ ≤ Config.maxAccumulator from fits), within, Bool.or_false]

theorem Bank.addReceivable_of_lt {b : Bank} {amount : Nat} (beyond : 68719476735 < b.receivable + amount) :
    b.addReceivable amount = { b with receivable := 68719476735, receivableMark := true } := by
  have past : passes b.receivable amount = true := decide_eq_true beyond
  rw [Bank.addReceivable, satAdd_of_lt (show Config.maxAccumulator < _ from beyond), past, Bool.or_true]
  rfl

/-- Settles O45: the tiers, the bounds of each rounding, and what the accumulators and counts do at their largest. -/
theorem pricingAndSaturation : Obligations.PricingAndSaturation := by
  unfold Obligations.PricingAndSaturation
  refine ⟨tier_bounds, fun p m t => ?_, fun s m => ?_, fun v => ⟨rfl, fun interval fine => ?_⟩,
    fun c d interval => ratePerMinute_bounds interval, fun b amount =>
    ⟨Bank.addPayable_of_le, Bank.addPayable_of_lt, Bank.addReceivable_of_le, Bank.addReceivable_of_lt, fun range => ?_,
      fun range => ?_, fun range => ?_⟩⟩
  · rw [stepCharge]
    refine ⟨by omega, by omega, fun price multiplier factor => ?_⟩
    have product := stepProduct_le price multiplier factor
    omega
  · rw [setupCharge]
    refine ⟨by omega, by omega, fun price multiplier => ?_⟩
    have product := priceProduct_le price multiplier
    omega
  · rw [TariffValues.intervalMs]
    omega
  · rw [Bank.addStep, satAdd_one (show _ ≤ Config.max32 from range)]
    rfl
  · rw [Bank.addHandover, satAdd_one (show _ ≤ Config.max32 from range)]
    rfl
  · rw [Bank.addTransit, satAdd_one (show _ ≤ Config.max32 from range)]
    rfl

end Sys2Proof.Machine
end

section
/-! PROOFS. The requests on accounts (R145 to R148), the settlement period and its close (R149 to R152, R155), COLLECT (R153, R154), and
the requests that load and schedule a tariff (R160, R161). -/

namespace Sys2Proof.Machine

/-! ### Accounts -/

theorem exec_setCarrier (number : Byte) (body : List Byte) (s : State) :
    exec (.setCarrier number body) s = serve 0x06 number body handleSetCarrier s := rfl

theorem exec_delCarrier (number : Byte) (body : List Byte) (s : State) :
    exec (.delCarrier number body) s = serve 0x07 number body handleDelCarrier s := rfl

theorem exec_setPeriod (number : Byte) (body : List Byte) (s : State) :
    exec (.setPeriod number body) s = serve 0x0F number body handleSetPeriod s := rfl

theorem handleSetCarrier_of_inRange {body : List Byte} {k : Nat} {c : AccountConfig} (read : readSetCarrier body = some (k, c))
    (inRange : k < 128) (s : State) :
    handleSetCarrier body s =
      accept (s.putAccount k (writtenAccount (s.account? k) c))
        (putOptional AccountConfig.layout ((s.account? k).map (·.config)) ++ c.ordered.layout) := by
  simp only [handleSetCarrier, read, if_neg (show ¬ Config.carrierCount ≤ k from Nat.not_le_of_gt inRange)]

/-- The four grounds on which DEL_CARRIER finds a carrier in use, in their order (R147). -/
theorem groupsNaming_pos (s : State) (k : Nat) : 0 < s.groupsNaming k ↔ ∃ e ∈ s.tgm.groups, e.2.config.carrier = k := by
  simp only [State.groupsNaming, List.length_pos_iff_exists_mem, List.mem_filter, decide_eq_true_eq]

theorem callsFrom_pos (s : State) (k : Nat) : 0 < s.callsFrom k ↔ ∃ e ∈ s.ctb, e.2.incoming = k := by
  simp only [State.callsFrom, List.length_pos_iff_exists_mem, List.mem_filter, decide_eq_true_eq]

theorem Bank.gathered_iff (b : Bank) :
    b.gathered = true ↔ 0 < b.payable ∨ 0 < b.receivable ∨ 0 < b.steps ∨ 0 < b.handovers ∨ 0 < b.transits ∨
      b.payableMark = true ∨ b.receivableMark = true := by
  simp only [Bank.gathered, Bool.or_eq_true, decide_eq_true_eq, or_assoc]

theorem handleDelCarrier_of_unused {body rest : List Byte} {k : Nat} {a : Account} {s : State}
    (read : takeNumber 1 body = some (k, rest)) (inRange : k < 128) (held : s.account? k = some a)
    (unused : s.carrierInUse k a = none) :
    handleDelCarrier body s = accept (s.setAccounts (s.chu.accounts.erase k)) a.config.layout := by
  have inRange : k < Config.carrierCount := inRange
  rw [handleDelCarrier, withRecord_of_configured read inRange held]
  simp only [unused]

/-- The checks of DEL_CARRIER, in their order (R147). -/
theorem delCarrier_checks {body rest : List Byte} {k : Nat} (read : takeNumber 1 body = some (k, rest)) (s : State) :
    FirstDecides (handleDelCarrier body s) (fun fields => (s, fields))
      [(128 ≤ k, [0x03]), (s.account? k = none, [0x05]), (∃ e ∈ s.tgm.groups, e.2.config.carrier = k, [0x06, 0]),
        (∃ e ∈ s.ctb, e.2.incoming = k, [0x06, 1]),
        (∃ a, s.account? k = some a ∧ a.closed.collected = false, [0x06, 2]),
        (∃ a, s.account? k = some a ∧
          (0 < a.running.payable ∨ 0 < a.running.receivable ∨ 0 < a.running.steps ∨ 0 < a.running.handovers ∨
            0 < a.running.transits ∨ a.running.payableMark = true ∨ a.running.receivableMark = true), [0x06, 3])] := by
  refine withRecord_checks read s _ fun a _ held => ?_
  simp only [FirstDecides, held, Option.some.injEq, exists_eq_left', State.carrierInUse, ← groupsNaming_pos, ← callsFrom_pos,
    ← Bank.gathered_iff]
  refine ⟨fun group => ?_, fun noGroup => ⟨fun call => ?_, fun noCall => ⟨fun uncollected => ?_, fun collected =>
    ⟨fun running => ?_, fun _ => trivial⟩⟩⟩⟩
  · simp only [if_pos group]
    rfl
  · simp only [if_neg noGroup, if_pos call]
    rfl
  · simp only [if_neg noGroup, if_neg noCall, if_pos uncollected]
    rfl
  · simp only [if_neg noGroup, if_neg noCall, if_neg collected, if_pos running]
    rfl

theorem handleSetPeriod_of_read {body rest : List Byte} {v : Nat} (read : takeNumber 2 body = some (v, rest)) (s : State) :
    handleSetPeriod body s = accept
      (s.setPeriodState { s.chu.period with
        length := min 1440 v,
        timer := if s.chu.period.held then s.chu.period.timer else periodTimer (min 1440 v) s.now })
      (putNumber 2 s.chu.period.length ++ putNumber 2 (min 1440 v)) := by
  simp only [handleSetPeriod, read]

/-- Settles O46: the account written or removed, the period's length and timer, and the checks of each request. -/
theorem accountRequestsServed : Obligations.AccountRequestsServed := by
  unfold Obligations.AccountRequestsServed
  refine ⟨?setCarrier, ?delCarrier, ?setPeriod, fun s number body takes => ⟨fun short => ?shortSet, fun k c read => ?setChecks⟩,
    fun s number body takes => ⟨fun empty => ?shortDel, fun k rest read => ?delChecks⟩, fun s number body takes short => ?shortPeriod⟩
  case setCarrier =>
    rintro s number body k c stored takes read inRange rfl
    obtain ⟨l, next, served⟩ := served_next (offered := []) takes (exec_setCarrier number body s)
      (handleSetCarrier_of_inRange read inRange s.popRequest) rfl
    refine ⟨_, next, served, rfl, fun missing => ?_, fun a held => ?_,
      fun j other => State.account_putAccount_ne s.popRequest k _ j other⟩
    · exact (State.account_putAccount_self s.popRequest k _).trans (by rw [State.popRequest_account, missing]; rfl)
    · exact (State.account_putAccount_self s.popRequest k _).trans (by rw [State.popRequest_account, held]; rfl)
  case delCarrier =>
    intro s number body rest k a takes read inRange held groups calls collected running wf
    have unused : s.popRequest.carrierInUse k a = none := by
      have noGroup : ¬ 0 < s.popRequest.groupsNaming k := by
        rw [groupsNaming_pos]
        rintro ⟨e, there, named⟩
        exact groups e there named
      have noCall : ¬ 0 < s.popRequest.callsFrom k := by
        rw [callsFrom_pos]
        rintro ⟨e, there, named⟩
        exact calls e there named
      rw [State.carrierInUse, if_neg noGroup, if_neg noCall, collected, running]
      rfl
    obtain ⟨l, next, served⟩ := served_next (offered := []) takes (exec_delCarrier number body s)
      (handleDelCarrier_of_unused (s := s.popRequest) read inRange held unused) rfl
    exact ⟨_, next, served, rfl, Table.get?_erase_self _ wf k, fun j other => Table.get?_erase_ne _ other⟩
  case setPeriod =>
    rintro s number body rest v length takes read lengthIs
    have lengthIs : length = min 1440 v := by
      rw [lengthIs]
      split <;> omega
    subst lengthIs
    obtain ⟨l, next, served⟩ := served_next (offered := []) takes (exec_setPeriod number body s)
      (handleSetPeriod_of_read read s.popRequest) rfl
    exact ⟨_, next, served, rfl⟩
  case shortSet =>
    refine refused_of_serve takes (exec_setCarrier number body s) ?_
    rw [handleSetCarrier, (readSetCarrier_eq_none body).mpr short]
    rfl
  case setChecks =>
    refine refusedByFirst_of_serve takes (exec_setCarrier number body s) ⟨fun beyond => ?_, fun _ => trivial⟩
    simp only [handleSetCarrier, read, if_pos (show Config.carrierCount ≤ k from beyond)]
    rfl
  case shortDel =>
    subst empty
    exact refused_of_serve takes (exec_delCarrier number [] s) (withRecord_of_short Nat.zero_lt_one _ _)
  case delChecks => exact refusedByFirst_of_serve takes (exec_delCarrier number body s) (delCarrier_checks read s.popRequest)
  case shortPeriod =>
    refine refused_of_serve takes (exec_setPeriod number body s) ?_
    rw [handleSetPeriod, (takeNumber_eq_none 2 body).mpr short]
    rfl

/-! ### The settlement period -/

theorem allCollected_iff (s : State) : s.allCollected = true ↔ ∀ a ∈ s.chu.accounts, a.2.closed.collected = true :=
  List.all_eq_true

theorem allCollected_eq_false {s : State} :
    s.allCollected = false ↔ ∃ a ∈ s.chu.accounts, a.2.closed.collected = false := by
  rw [State.allCollected, List.all_eq_false]
  simp only [Bool.not_eq_true]

/-- The close, with everything it writes given (R151, R155). -/
theorem closePeriod_eq (s : State) (trigger : PeriodTrigger) :
    s.closePeriod trigger = { s with
      lif := s.lif.offer (.closed s.chu.period.number s.tmb.clock s.chu.accounts.length s.chu.period.tariffMark trigger),
      chu := { s.chu with
        accounts := s.chu.accounts.map (fun e => (e.1, e.2.closedNow s.chu.period s.tmb.clock)),
        period := s.chu.period.next s.tmb.now } } := by
  rw [State.closePeriod, Table.mapValues_eq_map]
  rfl

/-- The beginning of a hold, with everything it writes given (R152, R155). -/
theorem holdPeriod_eq (s : State) (trigger : PeriodTrigger) :
    s.holdPeriod trigger = { s with
      lif := s.lif.offer (.closeHeld s.chu.period.number s.uncollected trigger),
      chu := { s.chu with period := { s.chu.period with held := true, timer := none } } } := rfl

theorem exec_periodTimerExpiry_of_due {s : State} {e : Nat} (timer : s.chu.period.timer = some e) (due : e ≤ s.tmb.now) :
    exec .periodTimerExpiry s = if s.allCollected then .next (s.closePeriod .timer) else .next (s.holdPeriod .timer) := by
  have dispatch : exec .periodTimerExpiry s = execPeriodTimerExpiry s := rfl
  rw [dispatch, execPeriodTimerExpiry]
  simp only [timer_due timer due, if_true]

theorem exec_close (number : Byte) (body : List Byte) (s : State) :
    exec (.close number body) s = serve 0x4A number body handleClose s := rfl

theorem handleClose_of_held {s : State} (held : s.chu.period.held = true) (body : List Byte) :
    handleClose body s = refuseWith s .held (s.heldFields false) := by
  rw [handleClose, if_pos held]

theorem handleClose_of_collected {s : State} (open' : s.chu.period.held = false) (all : s.allCollected = true)
    (body : List Byte) :
    handleClose body s = accept (s.closePeriod .request)
      (putNumber 4 s.chu.period.number ++ putNumber 4 s.tmb.clock ++ putNumber 1 s.chu.accounts.length) := by
  rw [handleClose, open', if_neg Bool.false_ne_true, if_pos all]

theorem handleClose_of_uncollected {s : State} (open' : s.chu.period.held = false) (some' : s.allCollected = false)
    (body : List Byte) :
    handleClose body s = refuseWith (s.holdPeriod .request) .held (s.heldFields true) := by
  rw [handleClose, open', if_neg Bool.false_ne_true, some', if_neg Bool.false_ne_true]

/-- Settles O47: at the timer and at the request the period closes, is held, or stays held. -/
theorem periodClosesOrIsHeld : Obligations.PeriodClosesOrIsHeld := by
  unfold Obligations.PeriodClosesOrIsHeld
  rintro s clear closed next held rfl rfl rfl rfl
  refine ⟨fun e timer due => ⟨fun all => ?_, fun some' => ?_⟩, fun number body takes => ⟨fun open' all => ?_,
    fun n count => ⟨fun open' some' => ?_, fun held => ?_⟩⟩⟩
  · rw [exec_periodTimerExpiry_of_due timer due, if_pos ((allCollected_iff s).mpr all), closePeriod_eq]
    rfl
  · rw [exec_periodTimerExpiry_of_due timer due, allCollected_eq_false.mpr some', if_neg Bool.false_ne_true]
    rfl
  · have answered := handleClose_of_collected (s := s.popRequest) open' ((allCollected_iff s).mpr all) body
    rw [closePeriod_eq] at answered
    obtain ⟨l, next, served⟩ := served_next
      (offered := [.closed s.chu.period.number s.tmb.clock s.chu.accounts.length s.chu.period.tariffMark .request]) takes
      (exec_close number body s) answered rfl
    exact ⟨_, next, served, rfl⟩
  · subst count
    have answered := handleClose_of_uncollected (s := s.popRequest) open' (allCollected_eq_false.mpr some') body
    obtain ⟨l, next, served⟩ := served_next (offered := [.closeHeld s.chu.period.number s.uncollected .request]) takes
      (exec_close number body s) answered rfl
    exact ⟨_, next, served, rfl⟩
  · subst count
    obtain ⟨l, next, served⟩ := served_next (offered := []) takes (exec_close number body s)
      (handleClose_of_held (s := s.popRequest) held body) rfl
    exact ⟨_, next, served, rfl⟩

/-! ### COLLECT -/

/-- A byte of flags is read back flag by flag, the first as bit 0 (R182). -/
theorem packFlags_bits : ∀ b0 b1 b2 b3 b4 b5 b6 b7 : Bool,
    (packFlags b0 b1 b2 b3 b4 b5 b6 b7).getLsbD 0 = b0 ∧ (packFlags b0 b1 b2 b3 b4 b5 b6 b7).getLsbD 1 = b1 ∧
    (packFlags b0 b1 b2 b3 b4 b5 b6 b7).getLsbD 2 = b2 ∧ (packFlags b0 b1 b2 b3 b4 b5 b6 b7).getLsbD 3 = b3 ∧
    (packFlags b0 b1 b2 b3 b4 b5 b6 b7).getLsbD 4 = b4 ∧ (packFlags b0 b1 b2 b3 b4 b5 b6 b7).getLsbD 5 = b5 ∧
    (packFlags b0 b1 b2 b3 b4 b5 b6 b7).getLsbD 6 = b6 ∧ (packFlags b0 b1 b2 b3 b4 b5 b6 b7).getLsbD 7 = b7 := by
  decide

theorem exec_collect (number : Byte) (body : List Byte) (s : State) :
    exec (.collect number body) s = serve 0x49 number body handleCollect s := rfl

section
variable {body rest : List Byte} {k : Nat} {a : Account} {s : State}

theorem handleCollect_of_collected (read : takeNumber 1 body = some (k, rest)) (inRange : k < 128) (held : s.account? k = some a)
    (collected : a.closed.collected = true) : handleCollect body s = accept s (a.closed.layout k true ++ [0]) := by
  have inRange : k < Config.carrierCount := inRange
  rw [handleCollect, withRecord_of_configured read inRange held, if_pos collected]

/-- A bank collected now, with the close it releases or not (R153, R154). -/
theorem handleCollect_of_uncollected (read : takeNumber 1 body = some (k, rest)) (inRange : k < 128)
    (held : s.account? k = some a) (uncollected : a.closed.collected = false) :
    handleCollect body s =
      if (s.chu.period.held && (s.putAccount k a.collect).allCollected) = true then
        accept ((s.putAccount k a.collect).closePeriod .release)
          (a.closed.layout k false ++ 1 :: putNumber 4 s.chu.period.number)
      else accept (s.putAccount k a.collect) (a.closed.layout k false ++ [0]) := by
  have inRange : k < Config.carrierCount := inRange
  rw [handleCollect, withRecord_of_configured read inRange held, uncollected, if_neg Bool.false_ne_true, State.collectBank,
    State.releasedFields]
  split <;> rfl

end

/-- Settles O48: a bank answered again, a bank marked collected, or the last one with the close that was held; and the layout. -/
theorem collectReturnsClosedBank : Obligations.CollectReturnsClosedBank := by
  unfold Obligations.CollectReturnsClosedBank
  refine ⟨?_, fun s number body takes => ⟨fun empty => ?_, fun k rest read => refusedByFirst_of_serve takes
    (exec_collect number body s) (withRecord_checks read s.popRequest _ fun _ _ _ => trivial)⟩, fun k period time before c times => ?_⟩
  · rintro s marked number body rest k a takes read inRange held rfl
    refine ⟨fun collected => ?_, fun uncollected => ⟨fun waits => ?_, fun holding last => ?_⟩⟩
    · obtain ⟨l, next, served⟩ := served_next (offered := []) takes (exec_collect number body s)
        (handleCollect_of_collected (s := s.popRequest) read inRange held collected) rfl
      exact ⟨_, next, served, rfl⟩
    · have answered := handleCollect_of_uncollected (s := s.popRequest) read inRange held uncollected
      have stays : ¬ (s.popRequest.chu.period.held && (s.popRequest.putAccount k a.collect).allCollected) = true := by
        rw [Bool.not_eq_true, Bool.and_eq_false_iff, allCollected_eq_false]
        exact waits
      rw [if_neg stays] at answered
      obtain ⟨l, next, served⟩ := served_next (offered := []) takes (exec_collect number body s) answered rfl
      exact ⟨_, next, served, rfl⟩
    · have answered := handleCollect_of_uncollected (s := s.popRequest) read inRange held uncollected
      have releases : (s.popRequest.chu.period.held && (s.popRequest.putAccount k a.collect).allCollected) = true := by
        rw [Bool.and_eq_true, allCollected_iff]
        exact ⟨holding, last⟩
      rw [if_pos releases, closePeriod_eq] at answered
      obtain ⟨l, next, served⟩ := served_next
        (offered := [.closed s.chu.period.number s.tmb.clock (s.putAccount k a.collect).chu.accounts.length
          s.chu.period.tariffMark .release]) takes (exec_collect number body s) answered rfl
      exact ⟨_, next, served, rfl⟩
  · subst empty
    exact refused_of_serve takes (exec_collect number [] s) (withRecord_of_short Nat.zero_lt_one _ _)
  · refine ⟨packFlags c.collected before c.bank.payableMark c.bank.receivableMark c.tariffMark c.closedAt.isSome false false,
      ?_, ?_⟩
    · rcases times with ⟨never, rfl, rfl⟩ | closed
      · simp only [ClosedBank.layout, never, List.append_assoc, List.cons_append, List.nil_append]
        rfl
      · simp only [ClosedBank.layout, closed, List.append_assoc, List.cons_append, List.nil_append]
        rfl
    · obtain ⟨b0, b1, b2, b3, b4, b5, b6, b7⟩ := packFlags_bits c.collected before c.bank.payableMark c.bank.receivableMark
        c.tariffMark c.closedAt.isSome false false
      exact ⟨b0, b1, b2, b3, b4, b5, b6, b7⟩

/-! ### LOAD_TARIFF and SCHEDULE_TARIFF -/

theorem exec_loadTariff (number : Byte) (body : List Byte) (s : State) :
    exec (.loadTariff number body) s = serve 0x08 number body handleLoadTariff s := rfl

theorem exec_scheduleTariff (number : Byte) (body : List Byte) (s : State) :
    exec (.scheduleTariff number body) s = serve 0x09 number body handleScheduleTariff s := rfl

theorem scheduleOf_isSome (s : State) (c : Nat) :
    (s.scheduleOf c).isSome = true ↔ ∃ t, s.tariff? c = some t ∧ t.schedule.isSome = true := by
  rw [State.scheduleOf]
  cases s.tariff? c with
  | none => simp
  | some t => simp

theorem handleLoadTariff_of_accepted {body : List Byte} {c : Nat} {v : TariffValues} {s : State}
    (read : readLoadTariff body = some (c, v)) (inRange : c < 64) (unscheduled : ∀ t, s.tariff? c = some t → t.schedule = none) :
    handleLoadTariff body s = accept (s.putTariff c (loadedClass (s.tariff? c) v.clamped))
      (putOptional TariffValues.layout ((s.tariff? c).bind (·.pendingSet)) ++ v.clamped.layout ++
        putNumber 3 v.clamped.intervalMs) := by
  have free : ¬ (s.scheduleOf c).isSome = true := by
    rw [scheduleOf_isSome]
    rintro ⟨t, held, scheduled⟩
    rw [unscheduled t held] at scheduled
    cases scheduled
  simp only [handleLoadTariff, read, if_neg (show ¬ Config.classCount ≤ c from Nat.not_le_of_gt inRange), if_neg free]

theorem loadTariff_checks {body : List Byte} {c : Nat} {v : TariffValues} (read : readLoadTariff body = some (c, v)) (s : State) :
    FirstDecides (handleLoadTariff body s) (fun fields => (s, fields))
      [(64 ≤ c, [0x03]), (∃ t, s.tariff? c = some t ∧ t.schedule.isSome = true, [0x0C])] := by
  simp only [FirstDecides, handleLoadTariff, read, ← scheduleOf_isSome]
  refine ⟨fun beyond => ?_, fun inRange => ⟨fun scheduled => ?_, fun _ => trivial⟩⟩
  · rw [if_pos (show Config.classCount ≤ c from beyond)]
    rfl
  · rw [if_neg (show ¬ Config.classCount ≤ c from inRange), if_pos scheduled]
    rfl

theorem handleScheduleTariff_of_pending {body : List Byte} {c time : Nat} {old : TariffClass} {v : TariffValues} {s : State}
    (read : readScheduleTariff body = some (c, time)) (inRange : c < 64) (held : s.tariff? c = some old)
    (pending : old.pendingSet = some v) :
    handleScheduleTariff body s =
      if s.tmb.clock < time then
        accept (s.putTariff c { old with schedule := some time })
          (putOptional (putNumber 4) old.schedule ++ putNumber 4 time ++ putNumber 4 (time - s.tmb.clock))
      else accept (s.activate .request c) (putOptional (putNumber 4) old.schedule ++ [0] ++ v.layout) := by
  simp only [handleScheduleTariff, read, if_neg (show ¬ Config.classCount ≤ c from Nat.not_le_of_gt inRange), held, pending]

theorem scheduleTariff_checks {body : List Byte} {c time : Nat} (read : readScheduleTariff body = some (c, time)) (s : State) :
    FirstDecides (handleScheduleTariff body s) (fun fields => (s, fields))
      [(64 ≤ c, [0x03]), (s.tariff? c = none, [0x05, 0]),
        (∃ t, s.tariff? c = some t ∧ t.pendingSet = none, [0x05, 1])] := by
  simp only [FirstDecides, handleScheduleTariff, read]
  refine ⟨fun beyond => ?_, fun inRange => ?_⟩
  · rw [if_pos (show Config.classCount ≤ c from beyond)]
    rfl
  · simp only [if_neg (show ¬ Config.classCount ≤ c from inRange)]
    refine ⟨fun missing => ?_, fun _ => ⟨?_, fun _ => trivial⟩⟩
    · rw [missing]
      rfl
    · rintro ⟨t, held, unloaded⟩
      simp only [held, unloaded]
      rfl

/-- Settles O49: the class written, the schedule written or the activation at once, and the checks. -/
theorem tariffLoadedAndScheduled : Obligations.TariffLoadedAndScheduled := by
  unfold Obligations.TariffLoadedAndScheduled
  refine ⟨?load, ?schedule, fun s number body takes => ⟨fun short => ?shortLoad, fun c v read => ?loadChecks⟩,
    fun s number body takes => ⟨fun short => ?shortSchedule, fun c time read => ?scheduleChecks⟩⟩
  case load =>
    rintro s number body c v stored takes read inRange unscheduled rfl
    obtain ⟨l, next, served⟩ := served_next (offered := []) takes (exec_loadTariff number body s)
      (handleLoadTariff_of_accepted (s := s.popRequest) read inRange unscheduled) rfl
    refine ⟨_, next, served, rfl, fun missing => ?_, fun old held => ?_,
      fun d other => State.tariff_putTariff_ne s.popRequest c _ d other⟩
    · exact (State.tariff_putTariff_self s.popRequest c _).trans (by rw [State.popRequest_tariff, missing]; rfl)
    · exact (State.tariff_putTariff_self s.popRequest c _).trans (by rw [State.popRequest_tariff, held]; rfl)
  case schedule =>
    intro s number body c time old v takes read inRange held pending
    have answered := handleScheduleTariff_of_pending (s := s.popRequest) read inRange held pending
    refine ⟨fun ahead => ?_, fun reached => ?_⟩
    · rw [if_pos (show s.popRequest.tmb.clock < time from ahead)] at answered
      obtain ⟨l, next, served⟩ := served_next (offered := []) takes (exec_scheduleTariff number body s) answered rfl
      exact ⟨_, next, served, rfl⟩
    · have activated : s.popRequest.activate .request c =
          (((s.popRequest.putTariff c { active := v, pendingSet := none, schedule := none }).setPeriodState
            { s.chu.period with tariffMark := true }).offer (.tariffOn c v s.tmb.clock .request)) := by
        simp only [State.activate, State.popRequest_tariff, held, pending]
        rfl
      rw [if_neg (show ¬ s.popRequest.tmb.clock < time from Nat.not_lt.mpr reached), activated] at answered
      obtain ⟨l, next, served⟩ := served_next (offered := [.tariffOn c v s.tmb.clock .request]) takes
        (exec_scheduleTariff number body s) answered rfl
      exact ⟨_, next, served, rfl⟩
  case shortLoad =>
    refine refused_of_serve takes (exec_loadTariff number body s) ?_
    rw [handleLoadTariff, (readLoadTariff_eq_none body).mpr short]
    rfl
  case loadChecks => exact refusedByFirst_of_serve takes (exec_loadTariff number body s) (loadTariff_checks read s.popRequest)
  case shortSchedule =>
    refine refused_of_serve takes (exec_scheduleTariff number body s) ?_
    rw [handleScheduleTariff, (readScheduleTariff_eq_none body).mpr short]
    rfl
  case scheduleChecks =>
    exact refusedByFirst_of_serve takes (exec_scheduleTariff number body s) (scheduleTariff_checks read s.popRequest)

end Sys2Proof.Machine
end

section
/-! PROOFS. The machine: a step, a tick and the expiries it brings (R30, R46, R51, R84, R86, R99, R114, R150, R164, R168, R178, R180), and
the state after reset. -/

namespace Sys2Proof.Machine

/-! ### A step and a tick -/

/-- Settles O1: a step is defined so. -/
theorem stepRunsFrontCommand : Obligations.StepRunsFrontCommand := by
  unfold Obligations.StepRunsFrontCommand
  exact fun _ _ _ => rfl

theorem perm_of_eraseIdx {α : Type} {l : List α} {n : Nat} (within : n < l.length) : (l[n] :: l.eraseIdx n).Perm l := by
  have whole : l.take n ++ l[n] :: l.drop (n + 1) = l := by
    rw [List.getElem_cons_drop, List.take_append_drop]
  rw [List.eraseIdx_eq_take_drop_succ]
  exact List.perm_middle.symm.trans (.of_eq whole)

/-- Taking events in a free order loses none of them and adds none (log 3). -/
theorem arrange_perm {n counter : Nat} {events : List Instr} (enough : events.length ≤ n) :
    (arrange n counter events).Perm events := by
  induction n generalizing counter events with
  | zero => exact .refl _
  | succ n ih =>
    match events, enough with
    | [], _ => exact .refl _
    | [_], _ => exact .refl _
    | c :: d :: rest, enough =>
      have within : Config.expiryPick counter % (c :: d :: rest).length < (c :: d :: rest).length :=
        Nat.mod_lt _ (Nat.succ_pos _)
      have others := ih (counter := counter + 1)
        (events := (c :: d :: rest).eraseIdx (Config.expiryPick counter % (c :: d :: rest).length))
        (by rw [List.length_eraseIdx_of_lt within]; exact Nat.sub_le_of_le_add enough)
      have taken : arrange (n + 1) counter (c :: d :: rest) =
          ((c :: d :: rest)[Config.expiryPick counter % (c :: d :: rest).length]?).toList ++
            arrange n (counter + 1) ((c :: d :: rest).eraseIdx (Config.expiryPick counter % (c :: d :: rest).length)) := rfl
      rw [taken, List.getElem?_eq_getElem within]
      exact (others.cons _).trans (perm_of_eraseIdx within)

theorem step_of_empty {s : State} (empty : s.pending = []) : step s = .next s.tick := by
  rw [step, empty]

/-- Settles O2: the tick moves the time and the counts on and queues the expiries that are due. -/
theorem emptyQueueTicks : Obligations.EmptyQueueTicks := by
  unfold Obligations.EmptyQueueTicks
  refine fun s empty => ⟨fun held => ?_, fun free => ⟨_, step_of_empty empty, ?_⟩⟩
  · rw [step_of_empty empty, State.tick, if_pos held]
  · rw [State.tick, if_neg free]
    refine ⟨?_, rfl, rfl, rfl, rfl, rfl, rfl, arrange_perm (Nat.le_refl _)⟩
    by_cases running : s.lif.phase = .running
    · simp only [State.advanced, Tmb.tick, running, decide_true, if_true]
    · simp only [State.advanced, Tmb.tick, running, decide_false, Bool.false_eq_true, if_false]

/-! ### The expiries due -/

theorem mem_whenDue {c d : Instr} {due : Bool} : c ∈ whenDue d due ↔ c = d ∧ due = true := by
  cases due <;> simp [whenDue]

theorem timer_due_iff (timer : Timer) (now : Nat) : Timer.due timer now = true ↔ ∃ e, timer = some e ∧ e ≤ now := by
  cases timer <;> simp [Timer.due]

theorem expiry_eq_some (state : CircuitState) (e : Nat) : state.expiry? = some e ↔ state = .guarding e := by
  cases state <;> simp [CircuitState.expiry?]

theorem Group.mem_dueEvents (now g : Nat) (grp : Group) (c : Instr) :
    c ∈ grp.dueEvents now g ↔
      (c = .windowExpiry g ∧ ∃ e, grp.windowTimer = some e ∧ e ≤ now) ∨
      (c = .escalationExpiry g ∧ ∃ e, grp.escalationTimer = some e ∧ e ≤ now) ∨
      (c = .tsExpiry g ∧ ∃ e, grp.tsTimer = some e ∧ e ≤ now) ∨
      (c = .tqExpiry g ∧ ∃ e, grp.tqTimer = some e ∧ e ≤ now) ∨
      (c = .twExpiry g ∧ ∃ e, grp.twTimer = some e ∧ e ≤ now) := by
  simp only [Group.dueEvents, List.mem_append, mem_whenDue, timer_due_iff, or_assoc]

theorem Call.mem_dueEvents (now tag : Nat) (call : Call) (c : Instr) :
    c ∈ call.dueEvents now tag ↔
      (c = .seizureSupervisionExpiry tag ∧ ∃ e, call.supervision = some e ∧ e ≤ now) ∨
      (c = .chargeStepExpiry tag ∧ ∃ e, call.chargeStep = some e ∧ e ≤ now) := by
  simp only [Call.dueEvents, List.mem_append, mem_whenDue, timer_due_iff]

theorem Serving.mem_dueEvents (v : Serving) (c : Instr) :
    c ∈ v.dueEvents ↔ (c = .restart v.number [] ∧ v.left ≠ []) ∨ (c = .restartCompletion ∧ 25 ≤ v.elapsed) := by
  have some' : (!v.left.isEmpty) = true ↔ v.left ≠ [] := by simp
  have bound : decide (Config.restartBound ≤ v.elapsed) = true ↔ 25 ≤ v.elapsed := decide_eq_true_iff
  simp only [Serving.dueEvents, List.mem_append, mem_whenDue, some', bound]

theorem Lif.mem_dueEvents (now : Nat) (l : Lif) (c : Instr) :
    c ∈ l.dueEvents now ↔
      (c = .interCharacterTimeout ∧ ∃ bytes last, l.receiver = .inside bytes last ∧ last + 10 < now) ∨
      (c = .initComplete ∧ l.phase = .initialising ∧ 40 ≤ l.initElapsed) ∨
      (∃ v, l.serving = some v ∧
        ((c = .restart v.number [] ∧ v.left ≠ []) ∨ (c = .restartCompletion ∧ 25 ≤ v.elapsed))) := by
  have bound : decide (Config.initBound ≤ l.initElapsed) = true ↔ 40 ≤ l.initElapsed := decide_eq_true_iff
  have gap : ∀ last : Nat, decide (last + Config.characterGap < now) = true ↔ last + 10 < now := fun last => decide_eq_true_iff
  cases receiver : l.receiver with
  | hunting =>
    simp only [Lif.dueEvents, receiver, List.mem_append, mem_whenDue, List.mem_flatMap, Option.mem_toList,
      Serving.mem_dueEvents, Bool.and_eq_true, decide_eq_true_eq, bound, or_assoc, Bool.false_eq_true, and_false, reduceCtorEq,
      false_and, exists_false]
  | inside bytes last =>
    simp only [Lif.dueEvents, receiver, List.mem_append, mem_whenDue, List.mem_flatMap, Option.mem_toList,
      Serving.mem_dueEvents, Bool.and_eq_true, decide_eq_true_eq, bound, gap, or_assoc, Receiver.inside.injEq, and_assoc,
      exists_and_left, exists_eq_left']

/-- The events due, block by block. -/
theorem mem_dueEvents (s : State) (c : Instr) :
    c ∈ s.dueEvents ↔
      (∃ i circ, (i, circ) ∈ s.tgm.circuits ∧ c = .guardExpiry i ∧ ∃ e, circ.state = .guarding e ∧ e ≤ s.tmb.now) ∨
      (∃ g grp, (g, grp) ∈ s.tgm.groups ∧
        ((c = .windowExpiry g ∧ ∃ e, grp.windowTimer = some e ∧ e ≤ s.tmb.now) ∨
          (c = .escalationExpiry g ∧ ∃ e, grp.escalationTimer = some e ∧ e ≤ s.tmb.now) ∨
          (c = .tsExpiry g ∧ ∃ e, grp.tsTimer = some e ∧ e ≤ s.tmb.now) ∨
          (c = .tqExpiry g ∧ ∃ e, grp.tqTimer = some e ∧ e ≤ s.tmb.now) ∨
          (c = .twExpiry g ∧ ∃ e, grp.twTimer = some e ∧ e ≤ s.tmb.now))) ∨
      (∃ tag call, (tag, call) ∈ s.ctb ∧
        ((c = .seizureSupervisionExpiry tag ∧ ∃ e, call.supervision = some e ∧ e ≤ s.tmb.now) ∨
          (c = .chargeStepExpiry tag ∧ ∃ e, call.chargeStep = some e ∧ e ≤ s.tmb.now))) ∨
      (∃ i gap, (i, gap) ∈ s.gpc.gaps ∧ c = .gapDurationExpiry i ∧ ∃ e, gap.expiry = some e ∧ e ≤ s.tmb.now) ∨
      (c = .periodTimerExpiry ∧ ∃ e, s.chu.period.timer = some e ∧ e ≤ s.tmb.now) ∨
      (c = .partClockRise ∧ s.lif.phase = .running ∧ 1000 ≤ s.tmb.clockCount) ∨
      (c = .interCharacterTimeout ∧ ∃ bytes last, s.lif.receiver = .inside bytes last ∧ last + 10 < s.tmb.now) ∨
      (c = .initComplete ∧ s.lif.phase = .initialising ∧ 40 ≤ s.lif.initElapsed) ∨
      (∃ v, s.lif.serving = some v ∧
        ((c = .restart v.number [] ∧ v.left ≠ []) ∨ (c = .restartCompletion ∧ 25 ≤ v.elapsed))) := by
  simp only [State.dueEvents, List.mem_append, List.mem_flatMap, Prod.exists, Group.mem_dueEvents, Call.mem_dueEvents,
    Lif.mem_dueEvents, mem_whenDue, timer_due_iff, expiry_eq_some, State.riseDue, Bool.and_eq_true, decide_eq_true_eq, or_assoc,
    State.now]

/-- The records of one key in a table. -/
theorem exists_key_iff {α : Type} {t : Table α} {k : Nat} {q : α → Prop} :
    (∃ j v, (j, v) ∈ t ∧ k = j ∧ q v) ↔ ∃ v, (k, v) ∈ t ∧ q v := by
  constructor
  · rintro ⟨j, v, stands, rfl, holds⟩
    exact ⟨v, stands, holds⟩
  · rintro ⟨v, stands, holds⟩
    exact ⟨k, v, stands, rfl, holds⟩

/-- Settles O3: each event is due in its own block and in no other. -/
theorem timersExpireWhenDue : Obligations.TimersExpireWhenDue := by
  unfold Obligations.TimersExpireWhenDue
  refine fun s => ⟨fun i => ?_, fun g => ?_, fun g => ?_, fun g => ?_, fun g => ?_, fun g => ?_, fun tag => ?_, fun tag => ?_,
    fun i => ?_, ?_, ?_, ?_, ?_, fun number body => ?restart, ?_⟩
  case restart =>
    have again : .restart number body ∈ s.dueEvents ↔ ∃ v, s.lif.serving = some v ∧ (number = v.number ∧ body = []) ∧ v.left ≠ [] := by
      simp [mem_dueEvents]
    rw [again]
    constructor
    · rintro ⟨v, serving, ⟨rfl, rfl⟩, left⟩
      exact ⟨rfl, v, serving, rfl, left⟩
    · rintro ⟨rfl, v, serving, rfl, left⟩
      exact ⟨v, serving, ⟨rfl, rfl⟩, left⟩
  all_goals simp [mem_dueEvents, exists_key_iff]

/-! ### The state after reset -/

/-- Settles O4: the fields of the constant are read off. -/
theorem resetStateCleared : Obligations.ResetStateCleared := by
  unfold Obligations.ResetStateCleared
  exact ⟨rfl, rfl, rfl, rfl, rfl, rfl, rfl, rfl, rfl, rfl, fun _ => rfl, fun _ => rfl, fun _ => rfl, fun _ => rfl, fun _ => rfl,
    fun _ => rfl, rfl, rfl, rfl, rfl, rfl, rfl⟩

/-- Settles O5: the record laws hold of every cleared state, and the others are finite facts of the constant. -/
theorem lawsHoldAtReset : Obligations.LawsHoldAtReset := by
  unfold Obligations.LawsHoldAtReset
  exact ⟨recordLaws_cleared State.reset .r115200 .initialising, by decide, by decide, by decide, by decide, by decide, by decide,
    by decide⟩

end Sys2Proof.Machine
end

section
/-! PROOFS. The control link: the receiver (R170, R171, R178), the out-line and the advisory queue (R173, R174), the summary byte (R175),
link reset, power and the reset pin (R169, R177, R178), STATUS and a kind that names no request (R176, R181). -/

namespace Sys2Proof.Machine

/-! ### The receiver -/

theorem listening_iff (l : Lif) : l.listening = true ↔ l.phase ≠ .held ∧ ∀ r, l.linkReset = some r → r.marking = true := by
  cases reset : l.linkReset with
  | none => simp [Lif.listening, Lif.spacing, reset]
  | some r => simp [Lif.listening, Lif.spacing, reset]

theorem listening_eq_false {l : Lif} (deaf : l.phase = .held ∨ ∃ r, l.linkReset = some r ∧ r.marking = false) :
    l.listening = false := by
  rw [Bool.eq_false_iff, Ne, listening_iff]
  rintro ⟨free, marking⟩
  rcases deaf with held | ⟨r, reset, spacing⟩
  · exact free held
  · rw [marking r reset] at spacing
    cases spacing

theorem characters_of_listening {s : State} (listening : s.lif.listening = true) (cs : List Byte) :
    s.characters cs = { s with lif := cs.foldl (Lif.character s.tmb.now) s.lif } := by
  rw [State.characters, if_pos listening]
  rfl

theorem characters_of_deaf {s : State} (deaf : s.lif.listening = false) (cs : List Byte) : s.characters cs = s := by
  rw [State.characters, deaf, if_neg Bool.false_ne_true]

/-- While the receiver hunts, bytes that are no start code pass by (R170). -/
theorem foldl_character_junk {now : Nat} {l : Lif} (hunting : l.receiver = .hunting) {junk : List Byte}
    (noStart : ∀ b ∈ junk, b ≠ 0xC3) : junk.foldl (Lif.character now) l = l := by
  induction junk with
  | nil => rfl
  | cons b rest ih =>
    have passes : Lif.character now l b = l := by
      simp only [Lif.character, hunting, if_neg (noStart b List.mem_cons_self)]
    rw [List.foldl_cons, passes]
    exact ih fun c there => noStart c (List.mem_cons_of_mem _ there)

theorem character_startCode {now : Nat} {l : Lif} (hunting : l.receiver = .hunting) :
    Lif.character now l 0xC3 = { l with receiver := .inside [] now } := by
  simp only [Lif.character, hunting, if_true]

/-- The bytes behind a start code with a length in range, whole but for nothing: their number is what the length announces (R170,
R182). -/
def announces (whole : List Byte) (length : Nat) : Prop :=
  2 ≤ length ∧ length ≤ 1024 ∧ whole.length = length + 4 ∧ valueOf (whole.take 2) = length

/-- Inside a frame that is not yet whole, the receiver stays inside (R170). -/
theorem inFrame_of_part {whole more : List Byte} {length : Nat} (frame : announces whole length) {bytes : List Byte}
    (part : bytes ++ more = whole) (missing : more ≠ []) (l : Lif) (now : Nat) :
    l.inFrame bytes now = { l with receiver := .inside bytes now } := by
  obtain ⟨low, high, size, announced⟩ := frame
  have short : bytes.length < length + 4 := by
    have := List.length_pos_iff.mpr missing
    rw [← size, ← part, List.length_append]
    omega
  rw [Lif.inFrame]
  by_cases early : bytes.length < 2
  · rw [if_pos early]
  · have value : valueOf (bytes.take 2) = length := by
      rw [← announced, ← part, List.take_append_of_le_length (Nat.le_of_not_lt early)]
    have inRange : lengthInRange length = true := by simp [lengthInRange, low, high]
    simp only [if_neg early, value, inRange, Bool.not_true, Bool.false_eq_true, if_false, if_pos short]

/-- The bytes of a frame up to its last, one by one (R170). -/
theorem foldl_character_part {whole : List Byte} {length : Nat} (frame : announces whole length) {now : Nat} {l : Lif}
    {got more last : List Byte} (part : got ++ more ++ last = whole) (missing : last ≠ []) :
    more.foldl (Lif.character now) { l with receiver := .inside got now } = { l with receiver := .inside (got ++ more) now } := by
  induction more generalizing got with
  | nil => rw [List.append_nil]; rfl
  | cons b rest ih =>
    have split : (got ++ [b]) ++ (rest ++ last) = whole := by rw [← part]; simp
    have one : Lif.character now { l with receiver := .inside got now } b = { l with receiver := .inside (got ++ [b]) now } :=
      inFrame_of_part frame split (by simp [missing]) _ now
    rw [List.foldl_cons, one, ih (by rw [← split]; simp)]
    simp

/-- A whole frame behind its start code: the receiver hunts again, and the check decides what becomes of it (R170). -/
theorem foldl_character_whole {whole : List Byte} {length : Nat} (frame : announces whole length) {now : Nat} {l : Lif}
    (hunting : l.receiver = .hunting) :
    (0xC3 :: whole).foldl (Lif.character now) l =
      if checkMatches length whole then l.frameDone (frameOf length whole) else { l with linkError := true } := by
  obtain ⟨low, high, size, announced⟩ := frame
  have back : { l with receiver := .hunting } = l := by rw [← hunting]
  obtain ⟨front, b, rfl⟩ : ∃ front b, whole = front ++ [b] :=
    ⟨_, _, (List.dropLast_concat_getLast (List.ne_nil_of_length_pos (by omega))).symm⟩
  have inside := foldl_character_part (whole := front ++ [b]) ⟨low, high, size, announced⟩ (now := now) (l := l) (got := [])
    (more := front) (last := [b]) rfl (List.cons_ne_nil _ _)
  have inRange : lengthInRange length = true := by simp [lengthInRange, low, high]
  rw [List.foldl_cons, character_startCode hunting, List.foldl_append, inside]
  show Lif.inFrame _ (front ++ [b]) now = _
  simp only [Lif.inFrame, announced, inRange, size, if_neg (show ¬ length + 4 < 2 by omega), Bool.not_true, Bool.false_eq_true,
    if_false, Nat.lt_irrefl]
  split
  · exact congrArg (fun m => Lif.frameDone m _) back
  · rw [Lif.abandon]
    exact congrArg (fun m : Lif => { m with linkError := true }) back

/-- The bytes of a frame behind its start code, with the check as it is received (R182). -/
theorem announces_frame {f : Frame} (fits : f.body.length ≤ 1022) {check : List Byte} (two : check.length = 2) :
    announces (putNumber 2 (f.body.length + 2) ++ f.kind :: f.number :: f.body ++ check) (f.body.length + 2) := by
  refine ⟨by omega, by omega, ?_, ?_⟩
  · simp [two]
    omega
  · rw [List.append_assoc, List.take_left' (length_putNumber 2 _), valueOf_putNumber]
    omega

theorem checkMatches_frame (f : Frame) {check : List Byte} :
    checkMatches (f.body.length + 2) (putNumber 2 (f.body.length + 2) ++ f.kind :: f.number :: f.body ++ check) =
      decide (valueOf check =
        (frameCheck (putNumber 2 (f.body.length + 2) ++ f.kind :: f.number :: f.body)).toNat) := by
  have size : (putNumber 2 (f.body.length + 2) ++ f.kind :: f.number :: f.body).length = f.body.length + 2 + 2 := by
    simp
    omega
  rw [checkMatches, List.drop_left' size, List.take_left' size]

theorem frameOf_frame (f : Frame) (check : List Byte) :
    frameOf (f.body.length + 2) (putNumber 2 (f.body.length + 2) ++ f.kind :: f.number :: f.body ++ check) = f := by
  obtain ⟨a, b, two⟩ : ∃ a b, putNumber 2 (f.body.length + 2) = [a, b] := ⟨_, _, rfl⟩
  simp [frameOf, two]

theorem exec_frameReceived (cs : List Byte) (s : State) : exec (.frameReceived cs) s = .next (s.characters cs) := rfl

/-- A frame with its own check, behind bytes that are no start code, is done with as one frame (R170). -/
theorem characters_onLine {s : State} (listening : s.lif.listening = true) (hunting : s.lif.receiver = .hunting)
    {junk : List Byte} (noStart : ∀ b ∈ junk, b ≠ 0xC3) {f : Frame} (fits : f.body.length ≤ 1022) :
    s.characters (junk ++ f.onLine) = { s with lif := s.lif.frameDone f } := by
  have frame := announces_frame (f := f) fits (length_putNumber 2
    (frameCheck (putNumber 2 (f.body.length + 2) ++ f.kind :: f.number :: f.body)).toNat)
  have value : ∀ c : Check, valueOf (putNumber 2 c.toNat) = c.toNat := fun c =>
    (valueOf_putNumber 2 _).trans (Nat.mod_eq_of_lt c.isLt)
  rw [characters_of_listening listening, List.foldl_append, foldl_character_junk hunting noStart, Frame.onLine]
  simp only [List.cons_append]
  rw [foldl_character_whole frame hunting, checkMatches_frame, frameOf_frame, value, decide_eq_true rfl, if_pos rfl]

/-- Settles O6: a whole frame behind bytes that pass by, in the running part and in the initialisation. -/
theorem wholeFrameReceived : Obligations.WholeFrameReceived := by
  unfold Obligations.WholeFrameReceived
  refine ⟨fun s junk f running marking hunting noStart fits => ?_, fun s f initialising marking hunting fits => ?_⟩
  · have listening := (listening_iff s.lif).mpr ⟨by rw [running]; exact nofun, marking⟩
    rw [exec_frameReceived, characters_onLine listening hunting noStart fits, Lif.frameDone, running]
    rfl
  · have listening := (listening_iff s.lif).mpr ⟨by rw [initialising]; exact nofun, marking⟩
    rw [exec_frameReceived, ← List.nil_append f.onLine, characters_onLine listening hunting (fun _ h => absurd h List.not_mem_nil) fits,
      Lif.frameDone, initialising]
    rfl

/-- Two length bytes out of range, behind the start code (R170). -/
theorem foldl_character_badLength {now last : Nat} {l : Lif} (inside : l.receiver = .inside [] last) {high low : Byte}
    (bad : high.toNat * 256 + low.toNat < 2 ∨ 1024 < high.toNat * 256 + low.toNat) :
    [high, low].foldl (Lif.character now) l = { l with receiver := .hunting, linkError := true } := by
  have value : valueOf [high, low] = high.toNat * 256 + low.toNat := by simp [valueOf]
  have outside : lengthInRange (high.toNat * 256 + low.toNat) = false := by
    rw [lengthInRange, Bool.and_eq_false_iff, decide_eq_false_iff_not, decide_eq_false_iff_not]
    omega
  have first : Lif.character now l high = { l with receiver := .inside [high] now } := by
    simp only [Lif.character, inside]
    rfl
  have second : Lif.inFrame { l with receiver := .inside [high] now } [high, low] now =
      { l with receiver := .hunting, linkError := true } := by
    simp only [Lif.inFrame, List.length_cons, List.length_nil, Nat.lt_irrefl, if_false, List.take_succ_cons, List.take_zero, value,
      outside, Bool.not_false, if_true]
    rfl
  rw [List.foldl_cons, first]
  exact second

/-- Settles O7: a frame with a wrong check, and the single events of the receiver. -/
theorem receiverAbandonsAndEvents : Obligations.ReceiverAbandonsAndEvents := by
  unfold Obligations.ReceiverAbandonsAndEvents
  refine ⟨fun s f high low free marking hunting fits differs => ?_, fun s free marking hunting => ?_,
    fun s high low last free marking inside bad => ?_, fun s bytes last inside past => ?_, fun s free => ?_⟩
  · have frame := announces_frame (f := f) fits (check := [high, low]) rfl
    have value : valueOf [high, low] = high.toNat * 256 + low.toNat := by simp [valueOf]
    rw [exec_frameReceived, characters_of_listening ((listening_iff _).mpr ⟨free, marking⟩)]
    simp only [List.cons_append]
    rw [foldl_character_whole frame hunting, checkMatches_frame, value, decide_eq_false differs, if_neg Bool.false_ne_true]
  · have dispatch : exec .startCodeReceived s = .next (s.characters [0xC3]) := rfl
    rw [dispatch, characters_of_listening ((listening_iff _).mpr ⟨free, marking⟩), List.foldl_cons, character_startCode hunting]
    rfl
  · have dispatch : exec (.lengthOutOfRange high low) s = .next (s.characters [high, low]) := rfl
    rw [dispatch, characters_of_listening ((listening_iff _).mpr ⟨free, marking⟩), foldl_character_badLength inside bad]
  · have dispatch : exec .interCharacterTimeout s = execInterCharacterTimeout s := rfl
    rw [dispatch, execInterCharacterTimeout, inside]
    exact if_pos past
  · exact if_neg free

/-! ### The out-line -/

theorem takeAdvisory_eq_none (queue : List Advisory) : takeAdvisory queue = none ↔ queue = [] := by
  cases queue with
  | nil => simp [takeAdvisory]
  | cons a rest =>
    rw [takeAdvisory]
    split
    · simp
    · split <;> simp

/-- The advisory taken is the oldest of the lowest priority number, and the others keep their order (R174). -/
theorem takeAdvisory_eq_some {queue rest : List Advisory} {a : Advisory} (taken : takeAdvisory queue = some (a, rest)) :
    ∃ older newer, queue = older ++ a :: newer ∧ rest = older ++ newer ∧
      (∀ b ∈ older, a.priority < b.priority) ∧ (∀ b ∈ newer, a.priority ≤ b.priority) := by
  induction queue generalizing a rest with
  | nil => cases taken
  | cons c queue ih =>
    rw [takeAdvisory] at taken
    split at taken
    next empty =>
      obtain ⟨rfl, rfl⟩ := Prod.mk.inj (Option.some.inj taken)
      rw [(takeAdvisory_eq_none queue).mp empty]
      exact ⟨[], [], rfl, rfl, by simp, by simp⟩
    next b others first =>
      obtain ⟨older, newer, rfl, rfl, before, after⟩ := ih first
      split at taken
      next le =>
        obtain ⟨rfl, rfl⟩ := Prod.mk.inj (Option.some.inj taken)
        refine ⟨[], _, rfl, rfl, by simp, fun d there => ?_⟩
        rcases List.mem_append.mp there with early | late
        · exact Nat.le_trans le (Nat.le_of_lt (before d early))
        · rcases List.mem_cons.mp late with rfl | late
          · exact le
          · exact Nat.le_trans le (after d late)
      next lt =>
        obtain ⟨rfl, rfl⟩ := Prod.mk.inj (Option.some.inj taken)
        refine ⟨c :: older, newer, rfl, rfl, fun d there => ?_, after⟩
        rcases List.mem_cons.mp there with rfl | there
        · exact Nat.lt_of_not_le lt
        · exact before d there

theorem exec_outlineFrameSend_of_free {s : State} (free : s.lif.phase ≠ .held) :
    exec .outlineFrameSend s = .next s.sendNext := if_neg free

/-- Settles O8: the choice of the frame, the order of delivery, and the kind and fields of each advisory. -/
theorem outlineChoosesFrameInDeliveryOrder : Obligations.OutlineChoosesFrameInDeliveryOrder := by
  unfold Obligations.OutlineChoosesFrameInDeliveryOrder
  refine ⟨fun s free => ⟨fun f rest replies => ?_, fun a rest replies taken => ?_, fun replies advisories => ?_⟩,
    fun queue => ⟨takeAdvisory_eq_none queue, fun a rest => takeAdvisory_eq_some⟩, fun a => ⟨rfl, ?_⟩⟩
  · rw [exec_outlineFrameSend_of_free free, State.sendNext, replies]
    rfl
  · rw [exec_outlineFrameSend_of_free free, State.sendNext, replies]
    simp only [taken]
    rfl
  · rw [exec_outlineFrameSend_of_free free, State.sendNext, replies, advisories]
    rfl
  · cases a with
    | suspended group cause count => cases cause <;> rfl
    | gapOn plan group interval mark => cases mark <;> rfl
    | closeHeld period uncollected trigger => cases trigger <;> rfl
    | closed period closeTime accounts mark trigger => cases mark <;> cases trigger <;> rfl
    | tariffOn index v clock trigger => cases trigger <;> rfl
    | ready cause => cases cause <;> rfl
    | _ => rfl

/-! ### The advisory queue -/

theorem offer_of_free {l : Lif} (free : l.linkReset = none) (a : Advisory) : l.offer a = l.enqueue a := by
  rw [Lif.offer, free]
  rfl

/-- An advisory that is not a STRAIN of a group already queued joins the queue as such, RESTARTED apart (R174). -/
theorem enqueue_of_fresh {l : Lif} {a : Advisory} (fresh : ∀ g level old, a = .strain g level → .strain g old ∉ l.advisories)
    (other : ∀ calls gaps, a ≠ .restarted calls gaps) : l.enqueue a = l.addAdvisory a := by
  cases a with
  | strain g level =>
    have none' : l.advisories.any (Advisory.isStrainOf g) = false := by
      rw [List.any_eq_false]
      intro b there same
      cases b with
      | strain h old =>
        obtain rfl : h = g := of_decide_eq_true same
        exact fresh h level old rfl there
      | _ => cases same
    rw [Lif.enqueue, none', if_neg Bool.false_ne_true]
  | restarted calls gaps => exact absurd rfl (other calls gaps)
  | _ => rfl

/-- Whatever is not a STRAIN of a group already queued joins a queue that has room (R174). -/
theorem enqueue_of_room {l : Lif} {a : Advisory} (fresh : ∀ g level old, a = .strain g level → .strain g old ∉ l.advisories)
    (room : l.advisories.length < 32) : l.enqueue a = { l with advisories := l.advisories ++ [a] } := by
  have room : l.advisories.length < Config.advisoryCapacity := room
  by_cases restarted : ∃ calls gaps, a = .restarted calls gaps
  · obtain ⟨calls, gaps, rfl⟩ := restarted
    exact if_pos room
  · rw [enqueue_of_fresh fresh fun calls gaps same => restarted ⟨calls, gaps, same⟩]
    exact if_pos room

/-- Settles O9: a STRAIN rewritten, an advisory added, a RESTARTED put in the newest's place, or an advisory lost. -/
theorem offeredAdvisoryQueued : Obligations.OfferedAdvisoryQueued := by
  unfold Obligations.OfferedAdvisoryQueued
  refine fun l a => ⟨fun reset => if_pos reset, fun free => ⟨?_, fun fresh => ⟨fun room => ?_, fun full => ⟨?_, fun other => ?_⟩⟩⟩⟩
  · rintro g level rfl ⟨old, queued⟩
    have there : l.advisories.any (Advisory.isStrainOf g) = true :=
      List.any_eq_true.mpr ⟨_, queued, by simp [Advisory.isStrainOf]⟩
    have same : ∀ b : Advisory, b.isStrainOf g = decide (b.strainGroup = some g) := fun b => by
      rw [Bool.eq_iff_iff, isStrainOf_iff, decide_eq_true_eq]
    simp only [Lif.offer, free, Option.isSome_none, Bool.false_eq_true, if_false, Lif.enqueue, there, if_true, rewriteStrain, same,
      decide_eq_true_eq]
  · rw [offer_of_free free, enqueue_of_room fresh room]
  · rintro calls gaps rfl
    rw [offer_of_free free]
    exact if_neg (show ¬ l.advisories.length < Config.advisoryCapacity from Nat.not_lt.mpr full)
  · rw [offer_of_free free, enqueue_of_fresh fresh other]
    exact if_neg (show ¬ l.advisories.length < Config.advisoryCapacity from Nat.not_lt.mpr full)

/-! ### The summary byte -/

/-- Settles O10: the byte is packed of the eight flags, and each is read off. -/
theorem summaryByteFlags : Obligations.SummaryByteFlags := by
  unfold Obligations.SummaryByteFlags
  intro s
  obtain ⟨queued, lost, overrun, error, level3, held, gapped, notReady⟩ := packFlags_bits (!s.lif.advisories.isEmpty)
    s.lif.advisoryLost s.lif.overrun s.lif.linkError s.anyLevel3 s.chu.period.held s.autoGapActive s.notReady
  rw [← State.summaryByte] at queued lost overrun error level3 held gapped notReady
  refine ⟨?_, lost, overrun, error, ?_, held, ?_, ?_⟩
  · rw [queued]
    simp
  · rw [level3, State.anyLevel3, List.any_eq_true]
    simp only [decide_eq_true_eq]
  · rw [gapped, State.autoGapActive, List.any_eq_true]
    simp only [decide_eq_true_eq]
  · rw [notReady, State.notReady, decide_eq_true_eq]

/-! ### Link reset, power and the reset pin -/

theorem exec_linkResetBegin (s : State) : exec .linkResetBegin s = execLinkResetBegin s := rfl

theorem exec_linkResetEnd (s : State) : exec .linkResetEnd s = execLinkResetEnd s := rfl

theorem newReset_inInit_of_initialising {l : Lif} (initialising : l.phase = .initialising) : l.newReset.inInit = true := by
  rw [Lif.newReset, initialising]
  rfl

theorem newReset_inInit_of_running {l : Lif} (running : l.phase = .running) (free : l.linkReset = none) :
    l.newReset.inInit = false := by
  rw [Lif.newReset, running, free]
  rfl

/-- The ending of a link reset, with the READY it queues or not (R177, R178). -/
theorem endReset_eq (l : Lif) (r : LinkReset) :
    l.endReset r = (if r.inInit then [] else [Advisory.ready .linkReset]).foldl Lif.offer
      { l with linkReset := none, advisoryLost := false, overrun := false, linkError := false } := by
  rw [Lif.endReset]
  split <;> rfl

theorem lineRateOf_eq (a b : Bool) :
    lineRateOf a b = if a then (if b then .r3686400 else .r921600) else (if b then .r460800 else .r115200) := by
  cases a <;> cases b <;> rfl

/-- Settles O11: the beginning and the close of a link reset, the deaf receiver, power-on, the reset pin and the completion of the
initialisation. -/
theorem linkAndPowerResets : Obligations.LinkAndPowerResets := by
  unfold Obligations.LinkAndPowerResets
  refine ⟨fun s free marking => ?begin, fun s cs high low deaf => ?deaf, fun s held => ⟨if_pos held, if_pos held⟩,
    fun s r reset spacing idle => ?ends, fun s r v reset spacing serving => ?waits, ?power, fun s => rfl,
    fun s initialising room => ?complete⟩
  case begin =>
    refine ⟨s.lif.newReset.inInit, newReset_inInit_of_initialising, newReset_inInit_of_running, ?_⟩
    rw [exec_linkResetBegin, execLinkResetBegin, if_pos ((listening_iff _).mpr ⟨free, marking⟩)]
    rfl
  case deaf =>
    have silent := listening_eq_false deaf
    refine ⟨?_, ?_, ?_, ?_⟩
    · exact congrArg _ (characters_of_deaf silent cs)
    · exact congrArg _ (characters_of_deaf silent [0xC3])
    · exact congrArg _ (characters_of_deaf silent [high, low])
    · rw [exec_linkResetBegin, execLinkResetBegin, silent, if_neg Bool.false_ne_true]
  case ends =>
    have none' : s.lif.serving.isSome = false := by rw [idle]; rfl
    rw [exec_linkResetEnd, execLinkResetEnd, reset]
    simp only [spacing, none', Bool.false_eq_true, if_false, endReset_eq]
    rfl
  case waits =>
    have served : s.lif.serving.isSome = true := by rw [serving]; rfl
    rw [exec_linkResetEnd, execLinkResetEnd, reset]
    simp only [spacing, served, Bool.false_eq_true, if_false, if_true]
    rfl
  case power =>
    rintro s a b rate rateIs
    obtain rfl : lineRateOf a b = rate := by rw [lineRateOf_eq, rateIs]
    have powerOn : exec (.powerOn a b) s =
        .next (s.cleared (lineRateOf a b) (if s.lif.phase = .held then .held else .initialising)) := rfl
    refine ⟨fun free => ?_, fun held => ?_, fun held => ?_⟩
    · rw [powerOn, if_neg free]
      rfl
    · rw [powerOn, if_pos held]
      rfl
    · exact if_pos held
  case complete =>
    have dispatch : exec .initComplete s = execInitComplete s := rfl
    have room : s.lif.advisories.length < Config.advisoryCapacity := room
    rw [dispatch, execInitComplete, if_pos initialising]
    simp only [State.withLif, Lif.initDone, Lif.addAdvisory, if_pos room]
    rfl

/-! ### STATUS, and a kind that names no request -/

theorem takes_of_takes {s : State} {kind number : Byte} {body : List Byte} (takes : Takes s kind number body) :
    s.lif.takes { kind := kind, number := number, body := body } = true := (takes_iff s kind number body).mpr takes

/-- Settles O14: the reply of STATUS with the flags cleared behind it, and UNKNOWN_KIND. -/
theorem statusAndUnknownKindServed : Obligations.StatusAndUnknownKindServed := by
  unfold Obligations.StatusAndUnknownKindServed
  refine ⟨fun s number body takes => ?_, fun s kind number body takes unknown => ?_⟩
  · have dispatch : exec (.status number body) s = execStatus number body s := rfl
    rw [dispatch, execStatus, if_pos (takes_of_takes takes)]
    rfl
  · have dispatch : exec (.unknownKind kind number body) s = serve kind number body handleUnknown s := by
      show execUnknownKind kind number body s = _
      rw [execUnknownKind, unknown, if_neg Bool.false_ne_true]
    obtain ⟨l, next, served⟩ := served_next (offered := []) takes dispatch (rfl : handleUnknown body s.popRequest = _) rfl
    exact ⟨_, next, served, rfl⟩

end Sys2Proof.Machine
end

section
/-! PROOFS. The layouts of R182: how each field is laid out, and that a request body laid out from its fields is read back as those. -/

namespace Sys2Proof.Machine

/-- The last byte of a number is its least significant (R182). -/
theorem putNumber_succ (n v : Nat) : putNumber (n + 1) v = putNumber n (v / 256) ++ [BitVec.ofNat 8 v] := by
  induction n with
  | zero => simp [putNumber]
  | succ n ih =>
    have shifted : v / 256 ^ (n + 1) = v / 256 / 256 ^ n := by rw [Nat.div_div_eq_div_mul, Nat.pow_succ']
    rw [putNumber, ih, putNumber, shifted]
    rfl

/-- A byte that carries a number is read back as it. -/
theorem takeNumber_one_of_toNat {b : Byte} {v : Nat} (value : b.toNat = v) (rest : List Byte) :
    takeNumber 1 (b :: rest) = some (v, rest) := by
  rw [takeNumber_one_cons, value]

theorem takeNumber_one_ofNat {v : Nat} (fits : v < 256) (rest : List Byte) :
    takeNumber 1 (BitVec.ofNat 8 v :: rest) = some (v, rest) :=
  takeNumber_one_of_toNat (by rw [BitVec.toNat_ofNat]; exact Nat.mod_eq_of_lt fits) rest

/-! ### The bodies of the requests -/

section
variable (rest : List Byte)

theorem readSetPrefix_putDigits {ds : Digits} {plan : Nat} {note : Option Nat} (short : ds.length ≤ 255) (decimal : ∀ d ∈ ds, d ≤ 9)
    (planFits : plan < 65536) (noteFits : ∀ n, note = some n → n < 65536) :
    readSetPrefix (putDigits ds ++ putNumber 2 plan ++ putOptional (putNumber 2) note ++ rest) = some (ds, plan, note) := by
  have noteRead : takeNote (putOptional (putNumber 2) note ++ rest) = some note := by
    have read := takeOptional_putOptional 2 note rest noteFits
    cases note with
    | none => rfl
    | some n => exact (congrArg (Option.map _) read).trans rfl
  simp only [readSetPrefix, List.append_assoc, Option.bind_eq_bind, takeDigits_putDigits ds _ short decimal, Option.bind_some,
    takeNumber_putNumber 2 plan _ planFits, noteRead]
  rfl

theorem readSetPlan_putNumber {f : PlanFields} (index : f.index < 65536) (short : f.choices.length ≤ 255)
    (groups : ∀ g ∈ f.choices, g < 65536) (mode : f.mode < 256) (ceiling : ∀ c, f.ceiling = some c → c < 16777216)
    (limit : f.limit < 256) :
    readSetPlan (putNumber 2 f.index ++ putList (putNumber 2) f.choices ++ putNumber 1 f.mode ++
      putOptional (putNumber 3) f.ceiling ++ putNumber 1 f.limit ++ rest) = some f := by
  simp only [readSetPlan, putList, List.append_assoc, List.cons_append, Option.bind_eq_bind, Option.bind_some,
    takeNumber_putNumber 2 f.index _ index, takeNumber_one_ofNat (Nat.lt_succ_of_le short),
    takeNumbers_flatMap 2 f.choices _ groups, takeNumber_putNumber 1 f.mode _ mode, takeOptional_putOptional 3 f.ceiling _ ceiling,
    takeNumber_putNumber 1 f.limit _ limit]
  rfl

theorem bind_of_eq_some {α β : Type} {o : Option α} {a : α} (h : o = some a) {f : α → Option β} : (o >>= f) = f a := by
  rw [h]
  rfl

/-- A number of one byte is read, and the reading goes on behind it. -/
theorem read_byte_then {β : Type} {v : Nat} {later : List Byte} {f : Nat × List Byte → Option β} {b : Option β} (fits : v < 256)
    (goesOn : f (v, later) = b) : (takeNumber 1 (putNumber 1 v ++ later) >>= f) = b :=
  (bind_of_eq_some (takeNumber_putNumber 1 v later fits)).trans goesOn

/-- A number of two bytes is read, and the reading goes on behind it. -/
theorem read_pair_then {β : Type} {v : Nat} {later : List Byte} {f : Nat × List Byte → Option β} {b : Option β} (fits : v < 65536)
    (goesOn : f (v, later) = b) : (takeNumber 2 (putNumber 2 v ++ later) >>= f) = b :=
  (bind_of_eq_some (takeNumber_putNumber 2 v later fits)).trans goesOn

theorem huntOrderOf_code (h : HuntOrder) : huntOrderOf h.code.toNat = some h := by cases h <;> rfl

theorem huntCode_eq (h : HuntOrder) :
    (h.code.toNat = 0 ↔ h = .ascending) ∧ (h.code.toNat = 1 ↔ h = .descending) ∧ (h.code.toNat = 2 ↔ h = .rotating) := by
  cases h <;> decide

theorem GroupConfig.layout_eq (c : GroupConfig) : c.layout =
    putNumber 1 c.carrier ++ putNumber 1 c.tariffClass ++ putNumber 2 c.firstCircuit ++ putNumber 2 c.circuitCount ++
      [c.hunt.code] ++ putNumber 1 c.reservation ++ putNumber 2 c.i1 ++ putNumber 2 c.i2 ++ putNumber 2 c.i3 ++
      putNumber 1 c.hysteresis ++ putNumber 2 c.windowLength ++ putNumber 1 c.m0 ++ putNumber 1 c.m1 ++ putNumber 1 c.m2 ++
      putNumber 1 c.m3 ++ putNumber 2 c.seizureTime ++ putNumber 2 c.guardTime ++ putNumber 1 c.suspensionCount ++
      putNumber 2 c.ts ++ putNumber 1 c.tq ++ putNumber 2 c.tw ++ putNumber 2 c.te ++ putNumber 1 c.deleteCount ++
      putDigits c.insertDigits := rfl

theorem GroupConfig.layout_flat (c : GroupConfig) (before later : List Byte) : before ++ c.layout ++ later =
    before ++ (putNumber 1 c.carrier ++ (putNumber 1 c.tariffClass ++ (putNumber 2 c.firstCircuit ++ (putNumber 2 c.circuitCount ++
      (c.hunt.code :: (putNumber 1 c.reservation ++ (putNumber 2 c.i1 ++ (putNumber 2 c.i2 ++ (putNumber 2 c.i3 ++
      (putNumber 1 c.hysteresis ++ (putNumber 2 c.windowLength ++ (putNumber 1 c.m0 ++ (putNumber 1 c.m1 ++ (putNumber 1 c.m2 ++
      (putNumber 1 c.m3 ++ (putNumber 2 c.seizureTime ++ (putNumber 2 c.guardTime ++ (putNumber 1 c.suspensionCount ++
      (putNumber 2 c.ts ++ (putNumber 1 c.tq ++ (putNumber 2 c.tw ++ (putNumber 2 c.te ++ (putNumber 1 c.deleteCount ++
      (putDigits c.insertDigits ++ later)))))))))))))))))))))))) := by
  simp only [GroupConfig.layout_eq, List.append_assoc, List.cons_append, List.nil_append]

theorem readSetGroup_layout {index : Nat} {c : GroupConfig} (indexFits : index < 65536) (carrier : c.carrier < 256)
    (tariffClass : c.tariffClass < 256) (firstCircuit : c.firstCircuit < 65536) (circuitCount : c.circuitCount < 65536)
    (reservation : c.reservation < 256) (i1 : c.i1 < 65536) (i2 : c.i2 < 65536) (i3 : c.i3 < 65536) (hysteresis : c.hysteresis < 256)
    (windowLength : c.windowLength < 65536) (m0 : c.m0 < 256) (m1 : c.m1 < 256) (m2 : c.m2 < 256) (m3 : c.m3 < 256)
    (seizureTime : c.seizureTime < 65536) (guardTime : c.guardTime < 65536) (suspensionCount : c.suspensionCount < 256)
    (ts : c.ts < 65536) (tq : c.tq < 256) (tw : c.tw < 65536) (te : c.te < 65536) (deleteCount : c.deleteCount < 256)
    (short : c.insertDigits.length ≤ 255) (decimal : ∀ d ∈ c.insertDigits, d ≤ 9) :
    readSetGroup (putNumber 2 index ++ c.layout ++ rest) =
      some { index := index, huntByte := c.hunt.code.toNat, config := c } := by
  rewrite [GroupConfig.layout_flat]
  unfold readSetGroup
  refine read_pair_then indexFits <| read_byte_then carrier <| read_byte_then tariffClass <| read_pair_then firstCircuit <| read_pair_then circuitCount <|
    (bind_of_eq_some (takeNumber_one_cons _ _)).trans <| read_byte_then reservation <| read_pair_then i1 <| read_pair_then i2 <| read_pair_then i3 <|
    read_byte_then hysteresis <| read_pair_then windowLength <| read_byte_then m0 <| read_byte_then m1 <| read_byte_then m2 <| read_byte_then m3 <|
    read_pair_then seizureTime <| read_pair_then guardTime <| read_byte_then suspensionCount <| read_pair_then ts <| read_byte_then tq <| read_pair_then tw <|
    read_pair_then te <| read_byte_then deleteCount <| (bind_of_eq_some (takeDigits_putDigits c.insertDigits rest short decimal)).trans ?_
  show some _ = some _
  rw [huntOrderOf_code]
  rfl

theorem readSetCarrier_layout {k : Nat} {c : AccountConfig} (kFits : k < 256) (margin : c.margin < 65536) (b1 : c.b1 < 4294967296)
    (b2 : c.b2 < 4294967296) (b3 : c.b3 < 4294967296) (t0 : c.t0 < 256) (t1 : c.t1 < 256) (t2 : c.t2 < 256) (t3 : c.t3 < 256) :
    readSetCarrier (putNumber 1 k ++ c.layout ++ rest) = some (k, c) := by
  simp only [readSetCarrier, AccountConfig.layout, List.append_assoc, Option.bind_eq_bind, Option.bind_some,
    takeNumber_putNumber 1 k _ kFits, takeNumber_putNumber 2 c.margin _ margin, takeNumber_putNumber 4 c.b1 _ b1,
    takeNumber_putNumber 4 c.b2 _ b2, takeNumber_putNumber 4 c.b3 _ b3, takeNumber_putNumber 1 c.t0 _ t0,
    takeNumber_putNumber 1 c.t1 _ t1, takeNumber_putNumber 1 c.t2 _ t2, takeNumber_putNumber 1 c.t3 _ t3]
  rfl

theorem readLoadTariff_layout {c : Nat} {v : TariffValues} (cFits : c < 256) (setup : v.setup < 65536) (price : v.price < 65536)
    (interval : v.interval < 65536) (fine : v.fine < 256) :
    readLoadTariff (putNumber 1 c ++ v.layout ++ rest) = some (c, v) := by
  simp only [readLoadTariff, TariffValues.layout, List.append_assoc, Option.bind_eq_bind, Option.bind_some,
    takeNumber_putNumber 1 c _ cFits, takeNumber_putNumber 2 v.setup _ setup, takeNumber_putNumber 2 v.price _ price,
    takeNumber_putNumber 2 v.interval _ interval, takeNumber_putNumber 1 v.fine _ fine]
  rfl

theorem readScheduleTariff_putNumber {c time : Nat} (cFits : c < 256) (timeFits : time < 4294967296) :
    readScheduleTariff (putNumber 1 c ++ putNumber 4 time ++ rest) = some (c, time) := by
  simp only [readScheduleTariff, List.append_assoc, Option.bind_eq_bind, Option.bind_some, takeNumber_putNumber 1 c _ cFits,
    takeNumber_putNumber 4 time _ timeFits]
  rfl

theorem takeGapKey_digits {ds : Digits} (short : ds.length ≤ 255) (decimal : ∀ d ∈ ds, d ≤ 9) (later : List Byte) :
    takeGapKey (0 :: (putDigits ds ++ later)) = some (.digits ds, later) := by
  simp only [takeGapKey, takeNumber_one_of_toNat (show (0 : Byte).toNat = 0 from rfl), Option.bind_eq_bind, Option.bind_some,
    if_true, takeDigits_putDigits ds _ short decimal]
  rfl

theorem takeGapKey_plan {p : Nat} (fits : p < 65536) (later : List Byte) :
    takeGapKey (1 :: (putNumber 2 p ++ later)) = some (.plan p, later) := by
  simp only [takeGapKey, takeNumber_one_of_toNat (show (1 : Byte).toNat = 1 from rfl), Option.bind_eq_bind, Option.bind_some,
    if_neg Nat.one_ne_zero, if_true, takeNumber_putNumber 2 p _ fits]
  rfl

/-- SET_GAP without a duration, behind its key (R113). -/
theorem readSetGap_endless {body : List Byte} {key : RawKey} {interval : Nat} (fits : interval < 65536)
    (keyRead : takeGapKey body = some (key, putNumber 2 interval ++ ([0] ++ rest))) :
    readSetGap body = some { key := key, interval := interval, flag := 0, duration := none } := by
  simp only [readSetGap, keyRead, Option.bind_eq_bind, Option.bind_some, takeNumber_putNumber 2 interval _ fits, List.cons_append,
    List.nil_append, takeNumber_one_of_toNat (show (0 : Byte).toNat = 0 from rfl), if_neg Nat.zero_ne_one]
  rfl

/-- SET_GAP with a duration, behind its key (R113). -/
theorem readSetGap_lasting {body : List Byte} {key : RawKey} {interval d : Nat} (fits : interval < 65536) (lasts : d < 16777216)
    (keyRead : takeGapKey body = some (key, putNumber 2 interval ++ ([1] ++ (putNumber 3 d ++ rest)))) :
    readSetGap body = some { key := key, interval := interval, flag := 1, duration := some d } := by
  simp only [readSetGap, keyRead, Option.bind_eq_bind, Option.bind_some, takeNumber_putNumber 2 interval _ fits, List.cons_append,
    List.nil_append, takeNumber_one_of_toNat (show (1 : Byte).toNat = 1 from rfl), if_true, takeNumber_putNumber 3 d _ lasts]
  rfl

theorem readSeek_putNumber {f : SeekFields} (tag : f.tag < 4294967296) (short : f.number.length ≤ 255)
    (decimal : ∀ d ∈ f.number, d ≤ 9) (cls : f.classByte < 256) (incoming : f.incoming < 256) :
    readSeek (putNumber 4 f.tag ++ putDigits f.number ++ putNumber 1 f.classByte ++ putNumber 1 f.incoming ++ rest) = some f := by
  simp only [readSeek, List.append_assoc, Option.bind_eq_bind, Option.bind_some, takeNumber_putNumber 4 f.tag _ tag,
    takeDigits_putDigits f.number _ short decimal, takeNumber_putNumber 1 f.classByte _ cls,
    takeNumber_putNumber 1 f.incoming _ incoming]
  rfl

theorem readFail_putNumber {tag cause flag : Nat} (tagFits : tag < 4294967296) (causeFits : cause < 256) (flagFits : flag < 256) :
    readFail (putNumber 4 tag ++ putNumber 1 cause ++ putNumber 1 flag ++ rest) = some (tag, cause, flag) := by
  simp only [readFail, List.append_assoc, Option.bind_eq_bind, Option.bind_some, takeNumber_putNumber 4 tag _ tagFits,
    takeNumber_putNumber 1 cause _ causeFits, takeNumber_putNumber 1 flag _ flagFits]
  rfl

theorem readService_putNumber {g target : Nat} (gFits : g < 65536) (targetFits : target < 256) :
    readService (putNumber 2 g ++ putNumber 1 target ++ rest) = some (g, target) := by
  simp only [readService, List.append_assoc, Option.bind_eq_bind, Option.bind_some, takeNumber_putNumber 2 g _ gFits,
    takeNumber_putNumber 1 target _ targetFits]
  rfl

end

/-- Settles O54: the equations of the layouts, and one reading back for each body. -/
theorem requestBodiesReadBack : Obligations.RequestBodiesReadBack := by
  unfold Obligations.RequestBodiesReadBack
  refine ⟨fun n v => ⟨rfl, putNumber_succ n v⟩, fun a b ds => ⟨rfl, rfl, rfl, ?digits⟩, fun lay v l => ⟨rfl, rfl, ?list⟩,
    fun rest => ⟨fun _ _ _ short decimal plan note => readSetPrefix_putDigits rest short decimal plan note,
      fun _ index short groups mode ceiling limit => readSetPlan_putNumber rest index short groups mode ceiling limit, ?setGroup,
      fun _ _ k margin b1 b2 b3 t0 t1 t2 t3 => readSetCarrier_layout rest k margin b1 b2 b3 t0 t1 t2 t3,
      fun _ _ c setup price interval fine => readLoadTariff_layout rest c setup price interval fine,
      fun _ _ c time => readScheduleTariff_putNumber rest c time, ?digitsEndless, ?digitsLasting, ?planEndless, ?planLasting,
      fun _ tag short decimal cls incoming => readSeek_putNumber rest tag short decimal cls incoming,
      fun _ _ _ tag cause flag => readFail_putNumber rest tag cause flag, fun _ _ g target => readService_putNumber rest g target⟩⟩
  case digits => simp [putDigits, putNumber]
  case list => simp [putList, putNumber]
  case setGroup =>
    intro index c indexFits carrier tariffClass firstCircuit circuitCount reservation i1 i2 i3 hysteresis windowLength m0 m1 m2 m3
      seizureTime guardTime suspensionCount ts tq tw te deleteCount short decimal
    exact ⟨c.hunt.code.toNat, readSetGroup_layout rest indexFits carrier tariffClass firstCircuit circuitCount reservation i1 i2 i3
      hysteresis windowLength m0 m1 m2 m3 seizureTime guardTime suspensionCount ts tq tw te deleteCount short decimal,
      huntCode_eq c.hunt⟩
  case digitsEndless =>
    intro ds interval short decimal fits
    refine readSetGap_endless rest fits ?_
    simp only [List.append_assoc]
    exact takeGapKey_digits short decimal _
  case digitsLasting =>
    intro ds interval d short decimal fits lasts
    refine readSetGap_lasting rest fits lasts ?_
    simp only [List.append_assoc]
    exact takeGapKey_digits short decimal _
  case planEndless =>
    intro p interval planFits fits
    refine readSetGap_endless rest fits ?_
    simp only [List.append_assoc]
    exact takeGapKey_plan planFits _
  case planLasting =>
    intro p interval d planFits fits lasts
    refine readSetGap_lasting rest fits lasts ?_
    simp only [List.append_assoc]
    exact takeGapKey_plan planFits _

end Sys2Proof.Machine
end

section
/-! PROOFS. The readings of records and tables (R5, R11, R24, R48, R93, R116, R148, R163, R182). -/

namespace Sys2Proof.Machine

theorem exec_readPlan (number : Byte) (body : List Byte) (s : State) :
    exec (.readPlan number body) s = serve 0x42 number body handleReadPlan s := rfl

theorem exec_readGroup (number : Byte) (body : List Byte) (s : State) :
    exec (.readGroup number body) s = serve 0x43 number body handleReadGroup s := rfl

theorem exec_readCall (number : Byte) (body : List Byte) (s : State) :
    exec (.readCall number body) s = serve 0x45 number body handleReadCall s := rfl

theorem exec_readCarrier (number : Byte) (body : List Byte) (s : State) :
    exec (.readCarrier number body) s = serve 0x46 number body handleReadCarrier s := rfl

theorem exec_readTariff (number : Byte) (body : List Byte) (s : State) :
    exec (.readTariff number body) s = serve 0x47 number body handleReadTariff s := rfl

theorem exec_readPrefix (number : Byte) (body : List Byte) (s : State) :
    exec (.readPrefix number body) s = serve 0x41 number body handleReadPrefix s := rfl

theorem exec_readGaps (number : Byte) (body : List Byte) (s : State) :
    exec (.readGaps number body) s = serve 0x48 number body handleReadGaps s := rfl

/-- A reading that its block accepts: it is served with the fields given, and nothing but LIF moves (R172). -/
theorem reading_served {i : Instr} {s : State} {kind number : Byte} {body fields : List Byte} {handle : List Byte → State → Answer}
    (takes : Takes s kind number body) (dispatch : exec i s = serve kind number body handle s)
    (answered : handle body s.popRequest = (s.popRequest, fields)) :
    ∃ t, exec i s = .next t ∧ Served s t kind number [] fields ∧ t = { s with lif := t.lif } := by
  obtain ⟨l, next, served⟩ := served_next (offered := []) takes dispatch answered rfl
  exact ⟨_, next, served, rfl⟩

/-! ### The records by index -/

theorem handleReadPlan_of_plan {body rest : List Byte} {i : Nat} {p : Plan} {s : State}
    (read : takeNumber 2 body = some (i, rest)) (inRange : i < 1024) (held : s.plan? i = some p) :
    handleReadPlan body s = accept s p.layout := withRecord_of_configured read inRange held s _

theorem handleReadGroup_of_group {body rest : List Byte} {i : Nat} {grp : Group} {s : State}
    (read : takeNumber 2 body = some (i, rest)) (inRange : i < 512) (held : s.group? i = some grp) :
    handleReadGroup body s = accept s (grp.config.layout ++ grp.runningLayout ++ s.circuitCounts i ++ grp.timersLayout s.now ++
      putOptional LastWindow.layout grp.lastWindow) := withRecord_of_configured read inRange held s _

theorem handleReadCall_of_call {body rest : List Byte} {tag : Nat} {call : Call} {s : State}
    (read : takeNumber 4 body = some (tag, rest)) (nonzero : tag ≠ 0) (live : s.call? tag = some call) :
    handleReadCall body s = accept s (call.layout tag s.now) := by
  simp only [handleReadCall, read, if_neg nonzero, live]

theorem handleReadCarrier_of_account {body rest : List Byte} {k : Nat} {a : Account} {s : State}
    (read : takeNumber 1 body = some (k, rest)) (inRange : k < 128) (held : s.account? k = some a) :
    handleReadCarrier body s = accept s (a.config.layout ++ a.running.layout ++ a.closed.layout k false ++
      putNumber 1 (a.config.tier a.running.steps) ++ putNumber 2 (s.groupsNaming k) ++ putNumber 2 (s.callsFrom k)) :=
  withRecord_of_configured read inRange held s _

theorem handleReadTariff_of_class {body rest : List Byte} {c : Nat} {t : TariffClass} {s : State}
    (read : takeNumber 1 body = some (c, rest)) (inRange : c < 64) (held : s.tariff? c = some t) :
    handleReadTariff body s = accept s (t.active.layoutWithInterval ++ putOptional TariffValues.layoutWithInterval t.pendingSet ++
      putOptional (fun at_ => putNumber 4 at_ ++ putNumber 4 (at_ - s.tmb.clock)) t.schedule ++
      putNumber 4 s.tmb.clock ++ putNumber 2 (s.groupsOfClass c)) :=
  withRecord_of_configured read inRange held s _

theorem readCall_checks {body rest : List Byte} {tag : Nat} (read : takeNumber 4 body = some (tag, rest)) (s : State) :
    FirstDecides (handleReadCall body s) (fun fields => (s, fields))
      [(tag = 0, [0x04]), (s.call? tag = none, 0x0A :: putNumber 4 tag)] := by
  simp only [FirstDecides, handleReadCall, read]
  refine ⟨fun zero => ?_, fun nonzero => ⟨fun missing => ?_, fun _ => trivial⟩⟩
  · rw [if_pos zero]
    rfl
  · rw [if_neg nonzero, missing]
    rfl

theorem readGaps_checks {body rest : List Byte} {first : Nat} (read : takeNumber 1 body = some (first, rest)) (s : State) :
    FirstDecides (handleReadGaps body s) (fun fields => (s, fields)) [(64 ≤ first, [0x03])] := by
  simp only [FirstDecides, handleReadGaps, read]
  exact ⟨fun beyond => if_pos (show Config.gapCapacity ≤ first from beyond), fun _ => trivial⟩

/-! ### READ_PREFIX and READ_GAPS -/

/-- What each form of READ_PREFIX asks for (R5). -/
theorem readForm_eq_none (form : Nat) (ds : Digits) (t : List PrefixEntry) :
    readForm form ds t = none ↔
      2 < form ∨ (form = 0 ∧ BadDigits 1 12 ds) ∨ (form = 1 ∧ BadDigits 1 16 ds) ∨ (form = 2 ∧ BadDigits 0 12 ds) := by
  simp only [badDigits_iff]
  match form with
  | 0 => cases h : digitsIn 1 12 ds <;> simp [readForm, h]
  | 1 => cases h : digitsIn 1 16 ds <;> simp [readForm, h]
  | 2 => cases h : digitsIn 0 12 ds <;> simp [readForm, h]
  | n + 3 => simp [readForm]

theorem readForm_of_good {form : Nat} {ds : Digits} {t : List PrefixEntry}
    (good : ¬ (2 < form ∨ (form = 0 ∧ BadDigits 1 12 ds) ∨ (form = 1 ∧ BadDigits 1 16 ds) ∨ (form = 2 ∧ BadDigits 0 12 ds))) :
    readForm form ds t =
      some (if form = 0 then findEntry ds t else if form = 1 then longestMatch ds t else nextEntry ds t) := by
  simp only [badDigits_iff] at good
  match form with
  | 0 => cases h : digitsIn 1 12 ds <;> simp_all [readForm]
  | 1 => cases h : digitsIn 1 16 ds <;> simp_all [readForm]
  | 2 => cases h : digitsIn 0 12 ds <;> simp_all [readForm]
  | n + 3 => omega

/-- The checks of READ_PREFIX, whose every refusal carries the count of entries (R5). -/
theorem readPrefix_checks {body : List Byte} {form : Nat} {ds : Digits} (read : readReadPrefix body = some (form, ds)) (s : State) :
    FirstDecides (handleReadPrefix body s) (fun fields => (s, fields))
      [(2 < form ∨ (form = 0 ∧ BadDigits 1 12 ds) ∨ (form = 1 ∧ BadDigits 1 16 ds) ∨ (form = 2 ∧ BadDigits 0 12 ds),
          0x04 :: putNumber 2 s.rsl.prefixes.length),
        ((form = 0 ∧ findEntry ds s.rsl.prefixes = none) ∨ (form = 1 ∧ longestMatch ds s.rsl.prefixes = none) ∨
          (form = 2 ∧ nextEntry ds s.rsl.prefixes = none), 0x05 :: putNumber 2 s.rsl.prefixes.length)] := by
  refine ⟨fun bad => ?_, fun good => ⟨fun missing => ?_, fun _ => trivial⟩⟩
  · simp only [handleReadPrefix, read, (readForm_eq_none form ds s.rsl.prefixes).mpr bad]
    rfl
  · have asked : readForm form ds s.rsl.prefixes = some none := by
      rw [readForm_of_good good]
      rcases missing with ⟨rfl, none'⟩ | ⟨rfl, none'⟩ | ⟨rfl, none'⟩ <;> simp [none']
    simp only [handleReadPrefix, read, asked]
    rfl

theorem handleReadPrefix_of_entry {body : List Byte} {form : Nat} {ds : Digits} {e : PrefixEntry} {s : State}
    (read : readReadPrefix body = some (form, ds)) (asked : readForm form ds s.rsl.prefixes = some (some e)) :
    handleReadPrefix body s = accept s (putNumber 2 s.rsl.prefixes.length ++ putDigits e.digits ++ e.layout) := by
  simp only [handleReadPrefix, read, asked]

/-- The entry of each form, with digits in range (R5). -/
theorem readForm_of_entry {form : Nat} {ds : Digits} {t : List PrefixEntry} {e : PrefixEntry} (decimal : ∀ d ∈ ds, d ≤ 9)
    (which : (form = 0 ∧ 1 ≤ ds.length ∧ ds.length ≤ 12 ∧ findEntry ds t = some e) ∨
      (form = 1 ∧ 1 ≤ ds.length ∧ ds.length ≤ 16 ∧ longestMatch ds t = some e) ∨
      (form = 2 ∧ ds.length ≤ 12 ∧ nextEntry ds t = some e)) :
    readForm form ds t = some (some e) := by
  rcases which with ⟨rfl, low, high, found⟩ | ⟨rfl, low, high, found⟩ | ⟨rfl, high, found⟩
  · rw [readForm, if_pos rfl, if_pos ((digitsIn_iff 1 12 ds).mpr ⟨low, high, decimal⟩), found]
  · rw [readForm, if_neg Nat.one_ne_zero, if_pos rfl, if_pos ((digitsIn_iff 1 16 ds).mpr ⟨low, high, decimal⟩), found]
  · rw [readForm, if_neg (by decide), if_neg (by decide), if_pos rfl,
      if_pos ((digitsIn_iff 0 12 ds).mpr ⟨Nat.zero_le _, high, decimal⟩), found]

theorem followingSlot_eq (t : Table Gap) :
    followingSlot t = if t.length ≤ 16 then 0xFF else ((t.take 16).getLast?.map (fun e => e.1 + 1)).getD 0xFF := by
  rw [followingSlot]
  by_cases few : t.length ≤ 16
  · rw [if_neg (Nat.not_lt.mpr few), if_pos few]
  · rw [if_pos (Nat.lt_of_not_le few), if_neg few]
    cases (t.take 16).getLast? <;> rfl

theorem handleReadGaps_of_slot {body rest : List Byte} {first : Nat} (read : takeNumber 1 body = some (first, rest))
    (inRange : first < 64) (s : State) :
    handleReadGaps body s = accept s
      (putNumber 1 s.gpc.gaps.length ++ putNumber 1 (s.gpc.gaps.filter (fun e => decide (e.2.origin = .auto))).length ++
        putNumber 2 s.gpc.autoInterval ++
        putList (fun e => putNumber 1 e.1 ++ e.2.layout s.now) ((gapsFrom first s.gpc.gaps).take 16) ++
        putNumber 1 (followingSlot (gapsFrom first s.gpc.gaps))) := by
  simp only [handleReadGaps, read, if_neg (show ¬ Config.gapCapacity ≤ first from Nat.not_le_of_gt inRange)]

/-! ### The layouts -/

theorem putRemaining_eq (now : Nat) (t : Timer) :
    putRemaining now t = match t with | none => [0xFF, 0xFF, 0xFF, 0xFF] | some e => putNumber 4 (e - now) := by
  cases t <;> rfl

/-- The timer of a call, with the mark saying which it is (R93). -/
theorem Call.timerLayout_eq (c : Call) (now : Nat) :
    c.timerLayout now =
      match c.supervision, c.chargeStep with
      | some e, _ => putNumber 4 (e - now) ++ [1, 0]
      | none, some e => putNumber 4 (e - now) ++ [1, 1]
      | none, none => [0xFF, 0xFF, 0xFF, 0xFF, 0] := by
  rw [Call.timerLayout]
  cases c.supervision with
  | some e => rfl
  | none => cases c.chargeStep <;> rfl

theorem Call.layout_eq (c : Call) (tag now : Nat) :
    c.layout tag now =
      putNumber 4 tag ++ putDigits c.number ++ putNumber 2 c.circuit ++ putNumber 2 c.group ++ putNumber 2 c.plan ++
        putNumber 1 c.position ++ [c.callClass.code] ++ putNumber 1 c.incoming ++ putNumber 1 c.attempts ++ [c.state.code] ++
        putNumber 1 c.multiplier ++ putNumber 1 c.tariffClass ++ [(if c.probe then 1 else 0 : Byte)] ++ putNumber 4 c.grantTime ++
        putOptional (putNumber 4) c.answerTime ++ putNumber 4 c.steps ++ putNumber 5 c.payable ++ putNumber 5 c.receivable ++
        c.timerLayout now := by
  rw [← putFlag_eq]
  rfl

theorem Bank.layout_eq (b : Bank) :
    b.layout = putNumber 5 b.payable ++ putNumber 5 b.receivable ++ putNumber 4 b.steps ++ putNumber 4 b.handovers ++
      putNumber 4 b.transits ++ [if b.payableMark then 1 else 0, if b.receivableMark then 1 else 0] := by
  rw [Bank.layout, putFlag_eq, putFlag_eq, List.append_assoc]
  rfl

theorem Gap.layout_eq (g : Gap) (now : Nat) :
    g.layout now =
      (match g.key with | .digits ds => 0 :: putDigits ds | .plan p => 1 :: putNumber 2 p) ++ [g.origin.code] ++
        putNumber 2 g.interval ++ putNumber 4 (g.nextAdmit - now) ++ putRemaining now g.expiry ++ putNumber 4 g.admitted ++
        putNumber 4 g.refused := by
  rw [Gap.layout]
  cases g.key <;> rfl

/-! ### The statement -/

/-- Settles O52: the record or the entries asked for, the checks of each reading, and the layout of each record. -/
theorem recordAndTableReadings : Obligations.RecordAndTableReadings := by
  unfold Obligations.RecordAndTableReadings
  refine ⟨fun s number body rest i => ⟨?plan, ?group, ?call, ?carrier, ?tariff⟩, ?entry, ?gaps, fun s number body rest i => ⟨?planChecks,
    ?groupChecks, ?callChecks, ?carrierChecks, ?tariffChecks, ?gapsChecks⟩, ?short, ?prefixChecks, putRemaining_eq, ?codes, ?planLayout,
    fun e => rfl, fun c => c.layout_eq, fun grp now => ⟨rfl, rfl⟩, fun w => rfl, ?callLayout, fun a => rfl, fun b => b.layout_eq,
    fun v => rfl, fun g now => g.layout_eq now⟩
  case plan =>
    intro p takes read inRange held
    exact reading_served takes (exec_readPlan number body s) (handleReadPlan_of_plan (s := s.popRequest) read inRange held)
  case group =>
    intro grp takes read inRange held
    exact reading_served takes (exec_readGroup number body s) (handleReadGroup_of_group (s := s.popRequest) read inRange held)
  case call =>
    intro call takes read nonzero live
    exact reading_served takes (exec_readCall number body s) (handleReadCall_of_call (s := s.popRequest) read nonzero live)
  case carrier =>
    intro a takes read inRange held
    exact reading_served takes (exec_readCarrier number body s) (handleReadCarrier_of_account (s := s.popRequest) read inRange held)
  case tariff =>
    intro c takes read inRange held
    exact reading_served takes (exec_readTariff number body s) (handleReadTariff_of_class (s := s.popRequest) read inRange held)
  case entry =>
    intro s number body form ds e takes read decimal which
    have answered := handleReadPrefix_of_entry (s := s.popRequest) read (readForm_of_entry decimal which)
    rw [PrefixEntry.layout, ← List.append_assoc] at answered
    exact reading_served takes (exec_readPrefix number body s) answered
  case gaps =>
    rintro s number body rest first from_ takes read inRange rfl
    have answered := handleReadGaps_of_slot read inRange s.popRequest
    rw [followingSlot_eq] at answered
    exact reading_served takes (exec_readGaps number body s) answered
  case planChecks =>
    exact fun takes read => refusedByFirst_of_serve takes (exec_readPlan number body s)
      (withRecord_checks read s.popRequest _ fun _ _ _ => trivial)
  case groupChecks =>
    exact fun takes read => refusedByFirst_of_serve takes (exec_readGroup number body s)
      (withRecord_checks read s.popRequest _ fun _ _ _ => trivial)
  case callChecks =>
    exact fun takes read => refusedByFirst_of_serve takes (exec_readCall number body s) (readCall_checks read s.popRequest)
  case carrierChecks =>
    exact fun takes read => refusedByFirst_of_serve takes (exec_readCarrier number body s)
      (withRecord_checks read s.popRequest _ fun _ _ _ => trivial)
  case tariffChecks =>
    exact fun takes read => refusedByFirst_of_serve takes (exec_readTariff number body s)
      (withRecord_checks read s.popRequest _ fun _ _ _ => trivial)
  case gapsChecks =>
    exact fun takes read => refusedByFirst_of_serve takes (exec_readGaps number body s) (readGaps_checks read s.popRequest)
  case short =>
    rintro s kind number body takes (⟨rfl | rfl, short⟩ | ⟨rfl, short⟩ | ⟨rfl | rfl | rfl, rfl⟩)
    · exact refused_of_serve takes (exec_readPlan number body s) (withRecord_of_short short _ _)
    · exact refused_of_serve takes (exec_readGroup number body s) (withRecord_of_short short _ _)
    · refine refused_of_serve takes (exec_readCall number body s) ?_
      rw [handleReadCall, (takeNumber_eq_none 4 body).mpr short]
      rfl
    · exact refused_of_serve takes (exec_readCarrier number [] s) (withRecord_of_short Nat.zero_lt_one _ _)
    · exact refused_of_serve takes (exec_readTariff number [] s) (withRecord_of_short Nat.zero_lt_one _ _)
    · exact refused_of_serve takes (exec_readGaps number [] s) rfl
  case prefixChecks =>
    rintro s number body count takes rfl
    refine ⟨fun short => ?_, fun form ds read => refusedByFirst_of_serve takes (exec_readPrefix number body s)
      (readPrefix_checks read s.popRequest)⟩
    refine refused_of_serve takes (exec_readPrefix number body s) ?_
    rw [handleReadPrefix, (readReadPrefix_eq_none body).mpr short]
    rfl
  case codes =>
    exact ⟨fun m => by cases m <;> rfl, fun h => by cases h <;> rfl, fun v => by cases v <;> rfl, fun c => by cases c <;> rfl,
      fun c => by cases c <;> rfl, fun o => by cases o <;> rfl⟩
  case planLayout => exact fun p => by simp [Plan.layout, putList, putNumber]
  case callLayout => exact fun c tag now => (c.layout_eq tag now).trans (congrArg _ (c.timerLayout_eq now))

end Sys2Proof.Machine
end

section
/-! PROOFS. What every request has in common (R172, R181): it is answered once, and a refusal changes no record. -/

namespace Sys2Proof.Machine

/-! ### Refusals -/

/-- The results that a refusal answers with (R181). -/
def refusalCodes : List Byte := [0x02, 0x03, 0x04, 0x05, 0x06, 0x07, 0x08, 0x09, 0x0A, 0x0B, 0x0C, 0x0E, 0x0F]

/-- An answer with one of these results leaves the state as it was. -/
def RefusalKeeps (s : State) (a : Answer) : Prop := ∀ result fields, a.2 = result :: fields → result ∈ refusalCodes → a.1 = s

namespace RefusalKeeps

@[simp] theorem refuse (s : State) (r : Result) : RefusalKeeps s (refuse s r) := fun _ _ _ _ => rfl

@[simp] theorem refuseWith (s : State) (r : Result) (fields : List Byte) : RefusalKeeps s (refuseWith s r fields) :=
  fun _ _ _ _ => rfl

@[simp] theorem refuseUnknown (s : State) (tag : Nat) : RefusalKeeps s (refuseUnknown s tag) := fun _ _ _ _ => rfl

@[simp] theorem refuseState (s : State) (tag : Nat) (call : Call) : RefusalKeeps s (refuseState s tag call) :=
  fun _ _ _ _ => rfl

/-- An answer with a result that is no refusal says nothing. -/
theorem of_other {s u : State} {code : Byte} {fields : List Byte} (other : code ∉ refusalCodes) :
    RefusalKeeps s (u, code :: fields) := fun result _ answered refusal => by
  rw [(List.cons.inj answered).1] at other
  exact absurd refusal other

@[simp] theorem accept (s u : State) (fields : List Byte) : RefusalKeeps s (accept u fields) := of_other (by decide)

@[simp] theorem held (s u : State) (fields : List Byte) : RefusalKeeps s (Machine.refuseWith u .held fields) := of_other (by decide)

@[simp] theorem deny (s u : State) (fields : List Byte) : RefusalKeeps s (Machine.refuseWith u .deny fields) := of_other (by decide)

@[simp] theorem final (s u : State) (fields : List Byte) : RefusalKeeps s (Machine.refuseWith u .final fields) := of_other (by decide)

theorem of_state {s : State} {a : Answer} (same : a.1 = s) : RefusalKeeps s a := fun _ _ _ _ => same

theorem withRecord {α : Type} {n limit : Nat} {find : Nat → Option α} {body : List Byte} {s : State} {act : Nat → α → Answer}
    (acts : ∀ i r, RefusalKeeps s (act i r)) : RefusalKeeps s (withRecord n limit find body s act) := by
  rw [Machine.withRecord]
  (repeat' split) <;> simp [acts]

end RefusalKeeps

section
variable (body : List Byte) (s : State)

theorem setPrefix_refusalKeeps : RefusalKeeps s (handleSetPrefix body s) := by
  rw [handleSetPrefix]
  (repeat' split) <;> simp

theorem delPrefix_refusalKeeps : RefusalKeeps s (handleDelPrefix body s) := by
  rw [handleDelPrefix]
  (repeat' split) <;> simp

theorem setPlan_refusalKeeps : RefusalKeeps s (handleSetPlan body s) := by
  rw [handleSetPlan]
  (repeat' split) <;> simp

theorem setGroup_refusalKeeps : RefusalKeeps s (handleSetGroup body s) := by
  rw [handleSetGroup]
  (repeat' split) <;> simp

theorem delGroup_refusalKeeps : RefusalKeeps s (handleDelGroup body s) := by
  rw [handleDelGroup]
  refine .withRecord fun g grp => ?_
  split <;> simp

theorem setCarrier_refusalKeeps : RefusalKeeps s (handleSetCarrier body s) := by
  rw [handleSetCarrier]
  (repeat' split) <;> simp

theorem delCarrier_refusalKeeps : RefusalKeeps s (handleDelCarrier body s) := by
  rw [handleDelCarrier]
  refine .withRecord fun k a => ?_
  split <;> simp

theorem loadTariff_refusalKeeps : RefusalKeeps s (handleLoadTariff body s) := by
  rw [handleLoadTariff]
  (repeat' split) <;> simp

theorem scheduleTariff_refusalKeeps : RefusalKeeps s (handleScheduleTariff body s) := by
  rw [handleScheduleTariff]
  (repeat' split) <;> simp

theorem cancelTariff_refusalKeeps : RefusalKeeps s (handleCancelTariff body s) :=
  .withRecord fun _ _ => .accept _ _ _

theorem setGap_refusalKeeps : RefusalKeeps s (handleSetGap body s) := by
  rw [handleSetGap]
  (repeat' split) <;> simp

theorem delGap_refusalKeeps : RefusalKeeps s (handleDelGap body s) := by
  rw [handleDelGap]
  (repeat' split) <;> simp

theorem setAutogap_refusalKeeps : RefusalKeeps s (handleSetAutogap body s) := by
  rw [handleSetAutogap]
  split <;> simp

theorem setClock_refusalKeeps : RefusalKeeps s (handleSetClock body s) := by
  rw [handleSetClock]
  split <;> simp

theorem setPeriod_refusalKeeps : RefusalKeeps s (handleSetPeriod body s) := by
  rw [handleSetPeriod]
  split <;> simp

theorem service_refusalKeeps : RefusalKeeps s (handleService body s) := by
  rw [handleService]
  (repeat' split) <;> simp

theorem block_refusalKeeps : RefusalKeeps s (handleBlock body s) := .withRecord fun _ _ => .accept _ _ _

theorem unblock_refusalKeeps : RefusalKeeps s (handleUnblock body s) := .withRecord fun _ _ => .accept _ _ _

theorem collect_refusalKeeps : RefusalKeeps s (handleCollect body s) := by
  rw [handleCollect]
  refine .withRecord fun k a => ?_
  split <;> simp

theorem close_refusalKeeps : RefusalKeeps s (handleClose body s) := by
  rw [handleClose]
  (repeat' split) <;> simp

end

/-! ### The requests on calls -/

section
variable {s : State} {a : Answer}

theorem grantSeek_refusalKeeps {u : State} {f : SeekFields} {cls : CallClass} {plan : Nat} {cand : Candidate}
    (answered : u.grantSeek f cls plan cand = some a) : RefusalKeeps s a := by
  simp only [State.grantSeek, Option.bind_eq_bind, Option.bind_eq_some_iff, Option.pure_def, Option.some.injEq] at answered
  obtain ⟨grp, -, granted, -, rfl⟩ := answered
  exact .of_other (by decide)

theorem searchSeek_refusalKeeps {u : State} {f : SeekFields} {cls : CallClass} {index : Nat} {plan : Plan}
    (answered : u.searchSeek f cls index plan = some a) : RefusalKeeps s a := by
  simp only [State.searchSeek, Option.bind_eq_bind, Option.bind_eq_some_iff] at answered
  obtain ⟨⟨t, found⟩, -, answered⟩ := answered
  cases found with
  | taken cand => exact grantSeek_refusalKeeps answered
  | exhausted conditions => exact Option.some.inj answered ▸ .deny _ _ _

theorem analyseSeek_refusalKeeps {f : SeekFields} {cls : CallClass} (answered : s.analyseSeek f cls = some a) :
    RefusalKeeps s a := by
  rw [State.analyseSeek] at answered
  split at answered
  · exact Option.some.inj answered ▸ .deny _ _ _
  · simp only [Option.bind_eq_bind, Option.bind_eq_some_iff] at answered
    obtain ⟨plan, -, answered⟩ := answered
    split at answered
    · exact searchSeek_refusalKeeps answered
    · split at answered
      · exact searchSeek_refusalKeeps answered
      · exact Option.some.inj answered ▸ .deny _ _ _

theorem seek_refusalKeeps {body : List Byte} (answered : handleSeek body s = some a) : RefusalKeeps s a :=
  handleSeek_cases (P := RefusalKeeps s) answered (fun r => .refuse s r) fun _ _ _ _ _ analysed => analyseSeek_refusalKeeps analysed

theorem progress_refusalKeeps {body : List Byte} (answered : handleProgress body s = some a) : RefusalKeeps s a := by
  refine withCall_cases (P := RefusalKeeps s) answered (fun _ => .of_state rfl) fun tag call _ _ _ acted => ?_
  simp only [State.progressCall, Option.bind_eq_bind, Option.bind_eq_some_iff, Option.pure_def, Option.some.injEq] at acted
  obtain ⟨r, -, rfl⟩ := acted
  exact .accept _ _ _

theorem answer_refusalKeeps {body : List Byte} (answered : handleAnswer body s = some a) : RefusalKeeps s a := by
  refine withCall_cases (P := RefusalKeeps s) answered (fun _ => .of_state rfl) fun tag call _ _ _ acted => ?_
  simp only [State.answerCall, Option.bind_eq_bind, Option.bind_eq_some_iff, Option.pure_def, Option.some.injEq] at acted
  obtain ⟨r, -, t, -, outgoing, -, accrued, -, c, -, rfl⟩ := acted
  exact .accept _ _ _

theorem clear_refusalKeeps {body : List Byte} (answered : handleClear body s = some a) : RefusalKeeps s a := by
  refine withCall_cases (P := RefusalKeeps s) answered (fun _ => .of_state rfl) fun tag call _ _ _ acted => ?_
  simp only [State.clearCall, Option.bind_eq_bind, Option.bind_eq_some_iff, Option.pure_def, Option.some.injEq] at acted
  obtain ⟨r, -, rfl⟩ := acted
  exact .accept _ _ _

theorem continueCall_refusalKeeps {u : State} {tag : Nat} {call : Call} {plan : Plan}
    (answered : u.continueCall tag call plan = some a) : RefusalKeeps s a := by
  simp only [State.continueCall, Option.bind_eq_bind, Option.bind_eq_some_iff] at answered
  obtain ⟨⟨t, found⟩, -, answered⟩ := answered
  cases found with
  | taken cand =>
    simp only [State.regrant, Option.bind_eq_bind, Option.bind_eq_some_iff, Option.pure_def, Option.some.injEq] at answered
    obtain ⟨grp, -, granted, -, rfl⟩ := answered
    exact .of_other (by decide)
  | exhausted conditions => exact Option.some.inj answered ▸ .final _ _ _

theorem fail_refusalKeeps {body : List Byte} (answered : handleFail body s = some a) : RefusalKeeps s a := by
  refine handleFail_cases (P := RefusalKeeps s) answered (fun _ => .of_state rfl) fun tag call ev cause reroute _ _ _ failed => ?_
  simp only [State.failCall, Option.bind_eq_bind, Option.bind_eq_some_iff] at failed
  obtain ⟨r, -, plan, -, failed⟩ := failed
  split at failed
  · exact continueCall_refusalKeeps failed
  · exact Option.some.inj failed ▸ .final _ _ _

end

/-! ### How each kind is served -/

/-- A request is handed to one block, which moves as a block does and refuses without a trace (R172, R181). -/
inductive ServedAs (kind number : Byte) (body : List Byte) : Prop
  | plain (handle : List Byte → State → Answer)
      (dispatch : ∀ s, exec (requestCommand kind number body) s = serve kind number body handle s)
      (moves : ∀ s, BlockMove s (handle body s).1) (refuses : ∀ s, RefusalKeeps s (handle body s))
  | law (handle : List Byte → State → Option Answer)
      (dispatch : ∀ s, exec (requestCommand kind number body) s = serveLaw kind number body handle s)
      (moves : ∀ s a, handle body s = some a → BlockMove s a.1) (refuses : ∀ s a, handle body s = some a → RefusalKeeps s a)

namespace ServedAs
variable {kind number : Byte} {body : List Byte}

theorem gentle (handle : List Byte → State → Answer)
    (dispatch : ∀ s, exec (requestCommand kind number body) s = serve kind number body handle s)
    (moves : ∀ s, Gentles s (handle body s).1) (refuses : ∀ s, RefusalKeeps s (handle body s)) : ServedAs kind number body :=
  .plain handle dispatch (fun s => .gentles (moves s)) refuses

theorem reading (handle : List Byte → State → Answer)
    (dispatch : ∀ s, exec (requestCommand kind number body) s = serve kind number body handle s)
    (same : ∀ s, (handle body s).1 = s) : ServedAs kind number body :=
  .plain handle dispatch (fun s => by rw [same]; exact .gentles .refl) fun s => .of_state (same s)

end ServedAs

/-- A kind that names a request is one of the table's (R181). -/
theorem kind_of_isRequestKind {kind : Byte} (known : isRequestKind kind = true) :
    kind ∈ requestKinds.map (BitVec.ofNat 8) := by
  rw [isRequestKind, List.contains_iff_mem] at known
  exact List.mem_map.mpr ⟨_, known, BitVec.ofNat_toNat _ _⟩

theorem requestCommand_of_unknown {kind : Byte} (unknown : isRequestKind kind = false) (number : Byte) (body : List Byte) :
    requestCommand kind number body = .unknownKind kind number body := by
  have apart : ∀ k ∈ requestKinds, kind.toNat ≠ k := by
    rintro _ there rfl
    rw [isRequestKind, List.contains_iff_mem.mpr there] at unknown
    cases unknown
  rw [requestCommand]
  split
  iterate 35 next named => exact absurd named (apart _ (by decide))
  rfl

theorem servedAs_of_unknown {kind : Byte} (unknown : isRequestKind kind = false) (number : Byte) (body : List Byte) :
    ServedAs kind number body := by
  refine .reading handleUnknown (fun s => ?_) fun s => rfl
  have dispatch : exec (.unknownKind kind number body) s = execUnknownKind kind number body s := rfl
  rw [requestCommand_of_unknown unknown, dispatch, execUnknownKind, unknown, if_neg Bool.false_ne_true]

/-- Every kind but RESTART and STATUS is served in this way. -/
theorem servedAs_of_kind {kind : Byte} (restart : kind ≠ 0x33) (status : kind ≠ 0x40) (number : Byte) (body : List Byte) :
    ServedAs kind number body := by
  cases known : isRequestKind kind with
  | false => exact servedAs_of_unknown known number body
  | true =>
    have there := kind_of_isRequestKind known
    simp only [requestKinds, List.map_cons, List.map_nil, List.cons_append, List.nil_append, List.mem_cons,
      List.not_mem_nil, or_false] at there
    rcases there with rfl | rfl | rfl | rfl | rfl | rfl | rfl | rfl | rfl | rfl | rfl | rfl | rfl | rfl | rfl | rfl | rfl | rfl |
      rfl | rfl | rfl | rfl | rfl | rfl | rfl | rfl | rfl | rfl | rfl | rfl | rfl | rfl | rfl | rfl | rfl
    · exact .plain handleSetPrefix (fun _ => rfl) (fun _ => .setPrefix body) (setPrefix_refusalKeeps body)
    · exact .plain handleDelPrefix (fun _ => rfl) (fun _ => .delPrefix body) (delPrefix_refusalKeeps body)
    · exact .gentle handleSetPlan (fun _ => rfl) (gentles_handleSetPlan body) (setPlan_refusalKeeps body)
    · exact .plain handleSetGroup (fun _ => rfl) (fun _ => .setGroup body) (setGroup_refusalKeeps body)
    · exact .plain handleDelGroup (fun _ => rfl) (fun _ => .delGroup body) (delGroup_refusalKeeps body)
    · exact .gentle handleSetCarrier (fun _ => rfl) (gentles_handleSetCarrier body) (setCarrier_refusalKeeps body)
    · exact .plain handleDelCarrier (fun _ => rfl) (fun _ => .delCarrier body) (delCarrier_refusalKeeps body)
    · exact .gentle handleLoadTariff (fun _ => rfl) (gentles_handleLoadTariff body) (loadTariff_refusalKeeps body)
    · exact .gentle handleScheduleTariff (fun _ => rfl) (gentles_handleScheduleTariff body) (scheduleTariff_refusalKeeps body)
    · exact .gentle handleCancelTariff (fun _ => rfl) (gentles_handleCancelTariff body) (cancelTariff_refusalKeeps body)
    · exact .gentle handleSetGap (fun _ => rfl) (gentles_handleSetGap body) (setGap_refusalKeeps body)
    · exact .gentle handleDelGap (fun _ => rfl) (gentles_handleDelGap body) (delGap_refusalKeeps body)
    · exact .gentle handleSetAutogap (fun _ => rfl) (gentles_handleSetAutogap body) (setAutogap_refusalKeeps body)
    · exact .gentle handleSetClock (fun _ => rfl) (gentles_handleSetClock body) (setClock_refusalKeeps body)
    · exact .gentle handleSetPeriod (fun _ => rfl) (gentles_handleSetPeriod body) (setPeriod_refusalKeeps body)
    · exact .law handleSeek (fun _ => rfl) (fun _ _ => .seek) (fun _ _ => seek_refusalKeeps)
    · exact .law handleProgress (fun _ => rfl) (fun _ _ => .progress) (fun _ _ => progress_refusalKeeps)
    · exact .law handleAnswer (fun _ => rfl) (fun _ _ => .answer) (fun _ _ => answer_refusalKeeps)
    · exact .law handleFail (fun _ => rfl) (fun _ _ => .fail) (fun _ _ => fail_refusalKeeps)
    · exact .law handleClear (fun _ => rfl) (fun _ _ => .clear) (fun _ _ => clear_refusalKeeps)
    · exact .plain handleService (fun _ => rfl) (fun _ => .service body) (service_refusalKeeps body)
    · exact .plain handleBlock (fun _ => rfl) (fun _ => .block body) (block_refusalKeeps body)
    · exact .plain handleUnblock (fun _ => rfl) (fun _ => .unblock body) (unblock_refusalKeeps body)
    · exact absurd rfl restart
    · exact absurd rfl status
    · exact .reading handleReadPrefix (fun _ => rfl) (handleReadPrefix_state body)
    · exact .reading handleReadPlan (fun _ => rfl) (handleReadPlan_state body)
    · exact .reading handleReadGroup (fun _ => rfl) (handleReadGroup_state body)
    · exact .reading handleReadCircuit (fun _ => rfl) (handleReadCircuit_state body)
    · exact .reading handleReadCall (fun _ => rfl) (handleReadCall_state body)
    · exact .reading handleReadCarrier (fun _ => rfl) (handleReadCarrier_state body)
    · exact .reading handleReadTariff (fun _ => rfl) (handleReadTariff_state body)
    · exact .reading handleReadGaps (fun _ => rfl) (handleReadGaps_state body)
    · exact .gentle handleCollect (fun _ => rfl) (gentles_handleCollect body) (collect_refusalKeeps body)
    · exact .gentle handleClose (fun _ => rfl) (gentles_handleClose body) (close_refusalKeeps body)

/-- A request that the engine takes is completed with its block's answer (R172). -/
theorem ServedAs.completed_of_takes {kind number : Byte} {body : List Byte} (h : ServedAs kind number body) {s t : State}
    (takes : Takes s kind number body) (next : exec (requestCommand kind number body) s = .next t) :
    ∃ a, t = completed kind number a ∧ BlockMove s.popRequest a.1 ∧ RefusalKeeps s.popRequest a := by
  cases h with
  | plain handle dispatch moves refuses =>
    rw [dispatch, serve_of_takes takes] at next
    cases next
    exact ⟨_, rfl, moves _, refuses _⟩
  | law handle dispatch moves refuses =>
    rw [dispatch] at next
    cases answered : handle body s.popRequest with
    | none =>
      rw [serveLaw, if_pos (takes_of_takes takes), answered] at next
      cases next
    | some a =>
      rw [serveLaw_of_takes takes answered] at next
      cases next
      exact ⟨a, rfl, moves _ _ answered, refuses _ _ answered⟩

theorem ServedAs.next_of_not_takes {kind number : Byte} {body : List Byte} (h : ServedAs kind number body) {s : State}
    (waits : ¬ Takes s kind number body) : exec (requestCommand kind number body) s = .next s := by
  cases h with
  | plain handle dispatch _ _ => rw [dispatch, serve_of_not_takes waits]
  | law handle dispatch _ _ => rw [dispatch, serveLaw_of_not_takes waits]

/-! ### The statements -/

/-- The reply of a completed request, and LIF beside it (R172). -/
theorem completed_answers {s : State} {kind number : Byte} {body : List Byte} {a : Answer} (takes : Takes s kind number body)
    (moves : BlockMove s.popRequest a.1) :
    let t := completed kind number a
    t.lif.requests = s.lif.requests.tail ∧ t.lif.phase = s.lif.phase ∧ t.lif.receiver = s.lif.receiver ∧
      t.lif.outLine = s.lif.outLine ∧ t.lif.linkReset = none ∧ t.lif.serving = none ∧ t.pending = s.pending ∧
      t.lif.replies =
        s.lif.replies ++ [{ kind := kind ||| 0x80, number := number, body := a.1.summaryByte :: a.2 }] := by
  obtain ⟨⟨offered, lif⟩, pending, -⟩ := offersOnly_writes moves.writes
  obtain ⟨-, reset, idle, -, -⟩ := takes
  rw [foldl_offer_eq] at lif
  simp only [completed, State.reply_lif, State.reply_pending, lif, pending, replyKind]
  exact ⟨rfl, rfl, rfl, rfl, reset, idle, rfl, rfl⟩

/-- Settles O12: the request is completed with one reply, or waits. -/
theorem engineAnswersEachRequestOnce : Obligations.EngineAnswersEachRequestOnce := by
  unfold Obligations.EngineAnswersEachRequestOnce
  refine fun s kind number body => ⟨fun t takes notRestart next => ?_, fun waits idle => ?_⟩
  · by_cases status : kind = 0x40
    · subst status
      have ran : exec (requestCommand 0x40 number body) s =
          .next ((completed 0x40 number (handleStatus body s.popRequest)).withLif Lif.clearSticky) := if_pos (takes_of_takes takes)
      rw [ran] at next
      cases next
      obtain ⟨requests, phase, receiver, outLine, reset, serving, pending, replies⟩ :=
        completed_answers (a := handleStatus body s.popRequest) takes (.gentles .refl)
      exact ⟨requests, phase, receiver, outLine, reset, serving, pending, _, _, replies⟩
    · obtain ⟨a, rfl, moves, -⟩ := (servedAs_of_kind notRestart status number body).completed_of_takes takes next
      obtain ⟨requests, phase, receiver, outLine, reset, serving, pending, replies⟩ := completed_answers takes moves
      exact ⟨requests, phase, receiver, outLine, reset, serving, pending, _, _, replies⟩
  · have refused : ¬ s.lif.takes { kind := kind, number := number, body := body } = true := mt (takes_iff _ _ _ _).mp waits
    by_cases restart : kind = 0x33
    · subst restart
      have free : s.lif.servesRestart number = false := by rw [Lif.servesRestart, idle rfl]; rfl
      show execRestart number body s = _
      rw [execRestart, if_neg refused, free, if_neg Bool.false_ne_true]
    · by_cases status : kind = 0x40
      · subst status
        exact if_neg refused
      · exact (servedAs_of_kind restart status number body).next_of_not_takes waits

/-- A RESTART that is taken adds no reply before it is complete (R180). -/
theorem restart_replies {s t : State} {number : Byte} {body : List Byte} (takes : Takes s 0x33 number body)
    (next : exec (requestCommand 0x33 number body) s = .next t) : t.lif.replies = s.lif.replies := by
  have ran : exec (requestCommand 0x33 number body) s = .next (s.popRequest.restartTaken number).goesOn :=
    if_pos (takes_of_takes takes)
  rw [ran] at next
  cases next
  obtain ⟨offered, v, lif, -⟩ := runEffects_lif
    (Config.restartPace (s.popRequest.restartTaken number).freeCounter % ((s.popRequest.restartTaken number).effectsLeft + 1))
    (s.popRequest.restartTaken number)
  rw [State.goesOn, lif, foldl_offer_eq]
  rfl

/-- Settles O13: the one reply tells the block's answer, and an answer that refuses keeps the state. -/
theorem refusedRequestChangesNoRecord : Obligations.RefusedRequestChangesNoRecord := by
  unfold Obligations.RefusedRequestChangesNoRecord
  intro s t kind number body summary result fields takes status next replies refusal
  by_cases restart : kind = 0x33
  · subst restart
    rw [restart_replies takes next] at replies
    exact absurd (congrArg List.length replies) (by simp)
  · obtain ⟨a, rfl, moves, refuses⟩ := (servedAs_of_kind restart status number body).completed_of_takes takes next
    obtain ⟨-, -, -, -, -, -, -, answered⟩ := completed_answers takes moves
    rw [answered, List.append_cancel_left_eq, List.cons.injEq, Frame.mk.injEq, List.cons.injEq] at replies
    obtain ⟨⟨-, -, -, fieldsEq⟩, -⟩ := replies
    have kept := refuses result fields fieldsEq refusal
    have whole : a = (s.popRequest, result :: fields) := Prod.ext kept fieldsEq
    subst whole
    exact ⟨served_completed (offered := []) kind number (result :: fields) rfl, rfl⟩

end Sys2Proof.Machine
end

section
/-! PROOFS. RESTART (R56, R97, R125, R180): each of its effects, its completion, and what they make of the part when nothing comes
between them. -/

namespace Sys2Proof.Machine

/-! ### The effects, one by one -/

theorem freed_eq (c : Circuit) : c.freed =
    if c.state.isBusy || c.state.isGuard then
      { c with state := if c.blockPending then .blocked else .idle, blockPending := false }
    else c := by
  cases stands : c.state with
  | busy tag => simp only [Circuit.freed, stands]; rfl
  | guarding expiry => simp only [Circuit.freed, stands]; rfl
  | idle => simp only [Circuit.freed, stands]; rfl
  | blocked => simp only [Circuit.freed, stands]; rfl

/-- The fall report of R52, when the level is set afresh (R56). -/
theorem fallReported_restarted (grp : Group) (busy now : Nat) : grp.fallReported (grp.restarted busy now) = true ↔
    grp.config.raiseLevel grp.idleCount < grp.level ∧ grp.config.raiseLevel grp.idleCount ≤ 1 ∧
      grp.service = .inService := by
  rw [Group.fallReported, Bool.and_eq_true, Bool.and_eq_true, decide_eq_true_eq, decide_eq_true_eq, decide_eq_true_eq, and_assoc]
  rfl

theorem restartGroup_of_none {s : State} {g : Nat} (missing : s.group? g = none) : s.restartGroup g = s := by
  rw [State.restartGroup, missing]

/-- The reset of a configured group in canonical tables: its record, what it queues, and the gaps that a fall report lifts
(R49, R52, R56, R121). -/
theorem restartGroup_of_some {s : State} (canon : Canonical s) {g : Nat} {grp : Group} (held : s.group? g = some grp) :
    s.restartGroup g = { s.putGroup g (grp.restarted (s.busyCount g) s.now) with
      lif := (strainOffered g grp.level (grp.restarted (s.busyCount g) s.now).level ++
        if grp.fallReported (grp.restarted (s.busyCount g) s.now) then gapOffsOffered s g else []).foldl Lif.offer s.lif,
      gpc := { s.gpc with
        gaps := if grp.fallReported (grp.restarted (s.busyCount g) s.now) then gapsAfterFall s g else s.gpc.gaps } } := by
  obtain ⟨-, plans, -, -, -, -, -, gaps, keys⟩ := canon
  rw [State.restartGroup, held]
  exact State.levelChanged_of_canonical (s := s.putGroup g (grp.restarted (s.busyCount g) s.now)) plans ⟨gaps, keys⟩ g grp _

theorem fallRemovals_self (t : Table Gap) : fallRemovals t t = 0 := by
  rw [fallRemovals, Nat.sub_self, ite_self]

theorem fallRemovals_cases (before after : Table Gap) :
    fallRemovals before after = 0 ∨ fallRemovals before after = autoCount before - autoCount after := by
  rw [fallRemovals]
  split
  · exact .inr rfl
  · exact .inl rfl

theorem group_purgeGaps (s : State) (left : List RestartEffect) (g : Nat) :
    (s.purgeGaps left).group? g = (s.group? g).map fun grp => grp.escalationEnded left g :=
  Table.get?_mapValues (Group.escalationEnded left) s.tgm.groups g

/-- The first effect frees the calls and the circuits, and recounts the groups (R97, R180). -/
theorem takeEffect_freeCalls (s : State) (v : Serving) (left : List RestartEffect) : ∃ t,
    s.takeEffect v .freeCalls left = t ∧
      t = { s with
        lif := { s.lif with serving := some { v with calls := s.ctb.length, left := left } }, tgm := t.tgm, ctb := [] } ∧
      (∀ i, t.circuit? i = (s.circuit? i).map (fun c =>
        if c.state.isBusy || c.state.isGuard then
          { c with state := if c.blockPending then .blocked else .idle, blockPending := false }
        else c)) ∧
      (∀ g, t.group? g = (s.group? g).map (fun grp =>
        { grp with idleCount := t.idleCircuitCount g, probe := none })) := by
  refine ⟨_, rfl, rfl, fun i => ?_, group_freeCalls s⟩
  simp only [← freed_eq]
  exact circuit_freeCalls s i

theorem takeEffect_resetGroup_of_none {s : State} {g : Nat} (missing : s.group? g = none) (v : Serving)
    (left : List RestartEffect) : s.takeEffect v (.resetGroup g) left = s.withServing { v with left := left } := by
  rw [State.takeEffect, restartGroup_of_none missing, fallRemovals_self]
  rfl

/-- The reset of a configured group (R56), stated whole. -/
theorem takeEffect_resetGroup_of_some {s : State} {g : Nat} {grp : Group} (held : s.group? g = some grp) (canon : Canonical s)
    (v : Serving) (left : List RestartEffect) (reported : Bool)
    (reportedIff : reported = true ↔ grp.config.raiseLevel grp.idleCount < grp.level ∧
      grp.config.raiseLevel grp.idleCount ≤ 1 ∧ grp.service = .inService) : ∃ t count,
    s.takeEffect v (.resetGroup g) left = t ∧
      t = { s with
        lif := { (strainOffered g grp.level (grp.config.raiseLevel grp.idleCount) ++
            if reported then gapOffsOffered s g else []).foldl Lif.offer s.lif with
          serving := some { v with gaps := count, left := left } },
        tgm := { s.tgm with groups := t.tgm.groups },
        gpc := { s.gpc with gaps := if reported then gapsAfterFall s g else s.gpc.gaps } } ∧
      (count = v.gaps ∨ count = v.gaps + (autoCount s.gpc.gaps - autoCount t.gpc.gaps)) ∧
      t.group? g = some (grp.restarted (s.busyCount g) s.now) ∧ (∀ h, h ≠ g → t.group? h = s.group? h) := by
  obtain rfl : reported = grp.fallReported (grp.restarted (s.busyCount g) s.now) := by
    rw [Bool.eq_iff_iff, reportedIff, fallReported_restarted]
  refine ⟨_, v.gaps + fallRemovals s.gpc.gaps (s.restartGroup g).gpc.gaps, rfl, ?whole, ?counted, ?here,
    fun h other => ?elsewhere⟩
  case counted =>
    rcases fallRemovals_cases s.gpc.gaps (s.restartGroup g).gpc.gaps with same | fewer
    · exact .inl (congrArg (v.gaps + ·) same)
    · exact .inr (congrArg (v.gaps + ·) fewer)
  all_goals rw [State.takeEffect, restartGroup_of_some canon held]
  case whole => rfl
  case here => exact State.group_putGroup_self s g _
  case elsewhere => exact State.group_putGroup_ne s g _ h other

/-- The removal of the AUTO gaps (R125), with the pending escalations that stop by it. -/
theorem takeEffect_purgeGaps (s : State) (v : Serving) (left : List RestartEffect) : ∃ t,
    s.takeEffect v .purgeGaps left = t ∧
      t = { s with
        lif := { s.lif with serving := some { v with gaps := v.gaps + autoCount s.gpc.gaps, left := left } },
        tgm := { s.tgm with groups := t.tgm.groups },
        gpc := { s.gpc with gaps := s.gpc.gaps.filter (fun e => decide (e.2.origin = .manual)) } } ∧
      (∀ g, t.group? g = (s.group? g).map (fun grp =>
        if .resetGroup g ∈ left then { grp with escalationTimer := none } else grp)) := by
  refine ⟨_, rfl, rfl, fun g => ?_⟩
  have ended : Group.escalationEnded left g = fun grp =>
      if .resetGroup g ∈ left then { grp with escalationTimer := none } else grp := by
    funext grp
    rw [Group.escalationEnded]
    simp only [List.contains_iff_mem]
  rw [← ended]
  exact group_purgeGaps s left g

/-! ### The RESTART that is taken, goes on, and is complete -/

theorem restartTaken_popRequest (s : State) (number : Byte) :
    s.popRequest.restartTaken number = restartBegun s number s.popRequest.purgePoint := rfl

theorem goesOn_eq (s : State) : s.goesOn =
    { State.runEffects (Config.restartPace s.freeCounter % (s.effectsLeft + 1)) s with
      freeCounter := s.goesOn.freeCounter } := rfl

theorem effectsLeft_of_serving {s : State} {v : Serving} (serving : s.lif.serving = some v) : s.effectsLeft = v.left.length := by
  rw [State.effectsLeft, serving]
  rfl

theorem takes_of_serving {s : State} {v : Serving} (serving : s.lif.serving = some v) (f : Frame) : s.lif.takes f = false := by
  simp only [Lif.takes, Lif.engineReady, serving, Option.isNone_some, Bool.and_false, Bool.false_and]

theorem servesRestart_of_serving {s : State} {v : Serving} (serving : s.lif.serving = some v) (number : Byte) :
    s.lif.servesRestart number = decide (v.number = number) := by
  rw [Lif.servesRestart, serving]
  rfl

theorem length_restartPlan (s : State) : s.restartPlan.length = s.tgm.groups.length + 3 := by
  have keys : s.tgm.groups.keys.length = s.tgm.groups.length := List.length_map _
  simp only [State.restartPlan, List.length_cons, List.length_append, List.length_map, List.length_take, List.length_drop, keys,
    List.length_nil]
  omega

/-- An effect leaves the RESTART in service with the number it has and the effects behind it. -/
theorem takeEffect_serving (s : State) (v : Serving) (e : RestartEffect) (left : List RestartEffect) :
    ∃ w, (s.takeEffect v e left).lif.serving = some w ∧ w.number = v.number ∧ w.left = left := by
  cases e with
  | freeCalls => exact ⟨_, rfl, rfl, rfl⟩
  | resetGroup g => exact ⟨_, rfl, rfl, rfl⟩
  | purgeGaps => exact ⟨_, rfl, rfl, rfl⟩
  | announce =>
    refine ⟨{ v with left := left }, ?_, rfl, rfl⟩
    rw [State.takeEffect, State.withServing_offer]
    rfl

/-- All the effects that are left fall, and none is left after them. -/
theorem runEffects_left {n : Nat} {s : State} {v : Serving} (serving : s.lif.serving = some v) (all : v.left.length = n) :
    ∃ w, (State.runEffects n s).lif.serving = some w ∧ w.number = v.number ∧ w.left = [] := by
  induction n generalizing s v with
  | zero => exact ⟨v, serving, rfl, List.length_eq_zero_iff.mp all⟩
  | succ n ih =>
    obtain ⟨e, left, split⟩ : ∃ e left, v.left = e :: left := List.exists_cons_of_length_eq_add_one all
    obtain ⟨u, goes, same, rest⟩ := takeEffect_serving s v e left
    have short : u.left.length = n := by
      rw [rest]
      rw [split, List.length_cons] at all
      exact Nat.succ.inj all
    rw [State.runEffects_succ, State.nextEffect_of_left serving split]
    obtain ⟨w, done, number, none'⟩ := ih goes short
    exact ⟨w, done, number.trans same, none'⟩

theorem linkReset_runEffects (n : Nat) (s : State) : (State.runEffects n s).lif.linkReset = s.lif.linkReset := by
  obtain ⟨as, v, lif, -⟩ := runEffects_lif n s
  rw [lif, foldl_offer_eq]

theorem replyRestart_of_free {s : State} (free : s.lif.linkReset = none) (v : Serving) : s.replyRestart v =
    s.reply 0x33 v.number (0x00 :: (putNumber 2 v.calls ++ putNumber 1 v.gaps)) := by
  rw [State.replyRestart, free]
  rfl

theorem replyRestart_of_reset {s : State} {r : LinkReset} (reset : s.lif.linkReset = some r) (v : Serving) :
    s.replyRestart v = s := by
  rw [State.replyRestart, reset]
  rfl

theorem endResetIfMarking_of_free {l : Lif} (free : l.linkReset = none) : l.endResetIfMarking = l := by
  rw [Lif.endResetIfMarking, free]

theorem endResetIfMarking_of_reset {l : Lif} {r : LinkReset} (reset : l.linkReset = some r) :
    l.endResetIfMarking = if r.marking then l.endReset r else l := by
  rw [Lif.endResetIfMarking, reset]

theorem completeRestart_of_serving {s : State} {v : Serving} (serving : s.lif.serving = some v) : s.completeRestart =
    (s.replyRestart v).withLif fun l => Lif.endResetIfMarking { l with serving := none } := by
  rw [State.completeRestart]
  simp only [serving]

/-- The completion replies, or ends a link reset that waited for it (R177, R180). -/
theorem exec_restartCompletion_of_serving {s : State} {v : Serving} (serving : s.lif.serving = some v) :
    ∃ t v', t = State.runEffects v.left.length s ∧ t.lif.serving = some v' ∧ v'.number = v.number ∧ v'.left = [] ∧
      (s.lif.linkReset = none → exec .restartCompletion s = .next { t with
        lif := { t.lif with
          serving := none,
          replies := t.lif.replies ++
            [{ kind := 0xB3, number := v.number,
               body := t.summaryByte :: 0x00 :: (putNumber 2 v'.calls ++ putNumber 1 v'.gaps) }] } }) ∧
      (∀ r, s.lif.linkReset = some r → r.marking = false →
        exec .restartCompletion s = .next { t with lif := { t.lif with serving := none } }) ∧
      (∀ r, s.lif.linkReset = some r → r.marking = true →
        exec .restartCompletion s = .next { t with
          lif := (if r.inInit then [] else [Advisory.ready .linkReset]).foldl Lif.offer
            { t.lif with
              serving := none, linkReset := none, advisoryLost := false, overrun := false, linkError := false } }) := by
  obtain ⟨v', done, number, left⟩ := runEffects_left serving rfl
  have reset := linkReset_runEffects v.left.length s
  have completes : exec .restartCompletion s = .next (State.runEffects v.left.length s).completeRestart := by
    have dispatch : exec .restartCompletion s = execRestartCompletion s := rfl
    rw [dispatch, execRestartCompletion, effectsLeft_of_serving serving]
  rw [completeRestart_of_serving done] at completes
  refine ⟨_, v', rfl, done, number, left, fun free => ?replies, fun r resets spacing => ?waits, fun r resets marking => ?ends⟩
  all_goals rw [completes]
  case replies =>
    rw [free] at reset
    rw [replyRestart_of_free reset, number, State.withLif, endResetIfMarking_of_free (by exact reset)]
    rfl
  case waits =>
    rw [resets] at reset
    rw [replyRestart_of_reset reset, State.withLif, endResetIfMarking_of_reset (r := r) (by exact reset), spacing,
      if_neg Bool.false_ne_true]
  case ends =>
    rw [resets] at reset
    rw [replyRestart_of_reset reset, State.withLif, endResetIfMarking_of_reset (r := r) (by exact reset), marking,
      if_pos rfl, endReset_eq]

/-! ### The effects between the first and the last -/

/-- The advisories of a group's reset: STRAIN and GAP_OFF (R56, R121). -/
def Advisory.ofReset (a : Advisory) : Prop := (∃ g level, a = .strain g level) ∨ ∃ q g, a = .gapOff q g

/-- The reset of this group brings a fall report (R52, R56). -/
def Group.fallsAfresh (grp : Group) : Prop :=
  grp.config.raiseLevel grp.idleCount < grp.level ∧ grp.config.raiseLevel grp.idleCount ≤ 1 ∧ grp.service = .inService

/-- A group without its escalation timer: the reset of R56 does not read it. -/
def Group.calm (grp : Group) : Group := { grp with escalationTimer := none }

theorem restarted_calm (grp : Group) (busy now : Nat) : grp.calm.restarted busy now = grp.restarted busy now := rfl

theorem fallsAfresh_calm (grp : Group) : grp.calm.fallsAfresh ↔ grp.fallsAfresh := Iff.rfl

theorem ofReset_strainOffered {g before after : Nat} : ∀ a ∈ strainOffered g before after, a.ofReset := by
  intro a ha
  rw [strainOffered] at ha
  split at ha
  · cases ha
  · exact .inl ⟨g, after, List.mem_singleton.mp ha⟩

theorem ofReset_gapOffsOffered {s : State} {g : Nat} : ∀ a ∈ gapOffsOffered s g, a.ofReset := by
  intro a ha
  obtain ⟨p, -, rfl⟩ := List.mem_map.mp ha
  exact .inr ⟨p.1, g, rfl⟩

/-- What a change of level offers (R49, R121). -/
theorem ofReset_levelOffers (s : State) (g before after : Nat) (reported : Bool) :
    ∀ a ∈ strainOffered g before after ++ (if reported then gapOffsOffered s g else []), a.ofReset := by
  intro a ha
  rcases List.mem_append.mp ha with strain | lifted
  · exact ofReset_strainOffered a strain
  · split at lifted
    · exact ofReset_gapOffsOffered a lifted
    · cases lifted

theorem autoCount_le_of_sublist {t u : Table Gap} (h : t.Sublist u) : autoCount t ≤ autoCount u :=
  (h.filter fun e : Nat × Gap => decide (e.2.origin = .auto)).length_le

theorem manualGaps_gapsAfterFall (s : State) (g : Nat) : manualGaps (gapsAfterFall s g) = manualGaps s.gpc.gaps := by
  rw [manualGaps, gapsAfterFall, List.filter_filter, manualGaps]
  refine List.filter_congr fun e _ => ?_
  cases e.2.origin with
  | manual => rfl
  | auto => rfl

theorem manualGaps_eq_self {t : Table Gap} (h : ∀ e ∈ t, e.2.origin = .manual) : manualGaps t = t :=
  List.filter_eq_self.mpr fun e he => decide_eq_true (h e he)

theorem autoCount_eq_zero {t : Table Gap} (h : ∀ e ∈ t, e.2.origin = .manual) : autoCount t = 0 := by
  rw [autoCount, List.length_eq_zero_iff, List.filter_eq_nil_iff]
  intro e he
  rw [h e he]
  exact Bool.false_ne_true

theorem origin_of_mem_manualGaps {t : Table Gap} {e : Nat × Gap} (h : e ∈ manualGaps t) : e.2.origin = .manual :=
  of_decide_eq_true (List.mem_filter.mp h).2

/-- What the resets and the removal of the AUTO gaps among the effects `es` make of a state, while the RESTART in service goes from
`v` to `w`. -/
structure Fell (es : List RestartEffect) (v w : Serving) (s t : State) : Prop where
  left : v.left = es ++ w.left
  progress : w = { v with gaps := w.gaps, left := w.left }
  lif : ∃ as : List Advisory, (∀ a ∈ as, a.ofReset) ∧ t.lif = { as.foldl Lif.offer s.lif with serving := some w }
  calls : t.ctb = s.ctb
  circuits : t.tgm.circuits = s.tgm.circuits
  time : t.tmb = s.tmb
  interval : t.gpc.autoInterval = s.gpc.autoInterval
  canon : Canonical t
  fewer : t.gpc.gaps.Sublist s.gpc.gaps
  manual : manualGaps t.gpc.gaps = manualGaps s.gpc.gaps
  purged : .purgeGaps ∈ es → ∀ e ∈ t.gpc.gaps, e.2.origin = .manual
  counted : w.gaps + autoCount t.gpc.gaps ≤ v.gaps + autoCount s.gpc.gaps
  exactly : (∀ g, .resetGroup g ∈ es → ∀ grp, s.group? g = some grp → ¬ grp.fallsAfresh) →
    w.gaps + autoCount t.gpc.gaps = v.gaps + autoCount s.gpc.gaps
  reset : ∀ g, .resetGroup g ∈ es → t.group? g = (s.group? g).map fun grp => grp.restarted (s.busyCount g) s.now
  waiting : ∀ g, .resetGroup g ∈ w.left → (t.group? g).map Group.calm = (s.group? g).map Group.calm
  other : ∀ g, .resetGroup g ∉ v.left → t.group? g = s.group? g

namespace Fell

theorem refl {v : Serving} {s : State} (serving : s.lif.serving = some v) (canon : Canonical s) : Fell [] v v s s where
  left := rfl
  progress := rfl
  lif := ⟨[], nofun, by rw [List.foldl_nil, ← serving]⟩
  calls := rfl
  circuits := rfl
  time := rfl
  interval := rfl
  canon := canon
  fewer := .refl _
  manual := rfl
  purged := nofun
  counted := Nat.le_refl _
  exactly _ := rfl
  reset := nofun
  waiting _ _ := rfl
  other _ _ := rfl

theorem serving {es : List RestartEffect} {v w : Serving} {s t : State} (h : Fell es v w s t) : t.lif.serving = some w := by
  obtain ⟨as, -, lif⟩ := h.lif
  rw [lif]

theorem trans {es fs : List RestartEffect} {v w x : Serving} {s t u : State} (h : Fell es v w s t) (k : Fell fs w x t u)
    (once : v.left.Nodup) : Fell (es ++ fs) v x s u := by
  have later : ∀ e ∈ es, e ∉ w.left := by
    rw [h.left] at once
    obtain ⟨-, -, apart⟩ := List.nodup_append.mp once
    exact fun e he there => apart e he e there rfl
  have waited : ∀ g, .resetGroup g ∈ fs → (t.group? g).map Group.calm = (s.group? g).map Group.calm := fun g hg =>
    h.waiting g (by rw [k.left]; exact List.mem_append_left _ hg)
  have busy : ∀ g, t.busyCount g = s.busyCount g := fun g => by
    rw [State.busyCount, State.countCircuits, h.circuits]; rfl
  have now : t.now = s.now := congrArg (·.now) h.time
  refine
    { left := by rw [h.left, k.left, List.append_assoc]
      progress := by rw [k.progress, h.progress]
      lif := ?lif
      calls := k.calls.trans h.calls
      circuits := k.circuits.trans h.circuits
      time := k.time.trans h.time
      interval := k.interval.trans h.interval
      canon := k.canon
      fewer := k.fewer.trans h.fewer
      manual := k.manual.trans h.manual
      purged := fun purge => ?purged
      counted := Nat.le_trans k.counted h.counted
      exactly := fun calm => ?exactly
      reset := fun g hg => ?reset
      waiting := fun g hg => (k.waiting g hg).trans (h.waiting g (by rw [k.left]; exact List.mem_append_right _ hg))
      other := fun g hg => ?other }
  case lif =>
    obtain ⟨as, only, lif⟩ := h.lif
    obtain ⟨bs, only', lif'⟩ := k.lif
    refine ⟨as ++ bs, fun a ha => (List.mem_append.mp ha).elim (only a) (only' a), ?_⟩
    rw [lif', lif, foldl_offer_withServing, foldl_offer_append]
  case purged =>
    rcases List.mem_append.mp purge with purge | purge
    · exact fun e he => h.purged purge e (k.fewer.mem he)
    · exact k.purged purge
  case exactly =>
    rw [k.exactly fun g hg grp held => ?_, h.exactly fun g hg => calm g (List.mem_append_left _ hg)]
    have same := waited g hg
    rw [held, Option.map_some, eq_comm, Option.map_eq_some_iff] at same
    obtain ⟨old, stood, same⟩ := same
    rw [← fallsAfresh_calm, ← same, fallsAfresh_calm]
    exact calm g (List.mem_append_right _ hg) old stood
  case reset =>
    rcases List.mem_append.mp hg with hg | hg
    · rw [k.other g (later _ hg), h.reset g hg]
    · rw [k.reset g hg, busy, now]
      have factors : (fun grp : Group => grp.restarted (s.busyCount g) s.now) =
          (fun grp => grp.restarted (s.busyCount g) s.now) ∘ Group.calm := rfl
      rw [factors, ← Option.map_map, waited g hg, Option.map_map]
  case other =>
    have later : .resetGroup g ∉ w.left := fun there => hg (by rw [h.left]; exact List.mem_append_right _ there)
    exact (k.other g later).trans (h.other g hg)

/-- The removal of the AUTO gaps (R125). -/
theorem purge {s : State} {v : Serving} {rest : List RestartEffect} (left : v.left = .purgeGaps :: rest) (canon : Canonical s) :
    Fell [.purgeGaps] v { v with gaps := v.gaps + autoCount s.gpc.gaps, left := rest } s (s.takeEffect v .purgeGaps rest) := by
  have manual : ∀ e ∈ manualGaps s.gpc.gaps, e.2.origin = .manual := fun e => origin_of_mem_manualGaps
  have none' : autoCount (manualGaps s.gpc.gaps) = 0 := autoCount_eq_zero manual
  have ended : ∀ g, (s.takeEffect v .purgeGaps rest).group? g = (s.group? g).map fun grp => grp.escalationEnded rest g :=
    group_purgeGaps s rest
  exact
    { left := left
      progress := rfl
      lif := ⟨[], nofun, rfl⟩
      calls := rfl
      circuits := rfl
      time := rfl
      interval := rfl
      canon := (gentles_purgeGaps s rest).keeps (fun _ _ => canonical_gentle) canon
      fewer := List.filter_sublist
      manual := manualGaps_eq_self manual
      purged := fun _ => manual
      counted := Nat.le_of_eq (congrArg (v.gaps + autoCount s.gpc.gaps + ·) none')
      exactly := fun _ => congrArg (v.gaps + autoCount s.gpc.gaps + ·) none'
      reset := fun g hg => nomatch List.mem_singleton.mp hg
      waiting := fun g _ => by
        rw [ended, Option.map_map]
        congr 1
        funext grp
        rw [Function.comp_apply, Group.escalationEnded]
        split <;> rfl
      other := fun g hg => by
        have away : .resetGroup g ∉ rest := fun there => hg (by rw [left]; exact List.mem_cons_of_mem _ there)
        have stands : (fun grp : Group => grp.escalationEnded rest g) = id := by
          funext grp
          rw [Group.escalationEnded, if_neg (by rwa [List.contains_iff_mem])]
          rfl
        rw [ended, stands, Option.map_id, id_eq] }

/-- The reset of one group (R56). -/
theorem resetGroup {s : State} {v : Serving} {g : Nat} {rest : List RestartEffect} (left : v.left = .resetGroup g :: rest)
    (once : .resetGroup g ∉ rest) (canon : Canonical s) :
    ∃ count, Fell [.resetGroup g] v { v with gaps := count, left := rest } s (s.takeEffect v (.resetGroup g) rest) := by
  have canon' : Canonical (s.takeEffect v (.resetGroup g) rest) :=
    (gentles_restartGroup s g).keeps (fun _ _ => canonical_gentle) canon
  cases held : s.group? g with
  | none =>
    rw [takeEffect_resetGroup_of_none held] at canon' ⊢
    exact ⟨v.gaps,
      { left := left
        progress := rfl
        lif := ⟨[], nofun, rfl⟩
        calls := rfl
        circuits := rfl
        time := rfl
        interval := rfl
        canon := canon'
        fewer := .refl _
        manual := rfl
        purged := fun hp => nomatch List.mem_singleton.mp hp
        counted := Nat.le_refl _
        exactly := fun _ => rfl
        reset := fun h hh => by
          cases List.mem_singleton.mp hh
          rw [held]
          exact held
        waiting := fun _ _ => rfl
        other := fun _ _ => rfl }⟩
  | some grp =>
    obtain ⟨t, count, taken, whole, counts, here, elsewhere⟩ := takeEffect_resetGroup_of_some held canon v rest _
      (fallReported_restarted grp 0 0)
    rw [taken] at canon' ⊢
    have gaps : t.gpc.gaps = if grp.fallReported (grp.restarted 0 0) then gapsAfterFall s g else s.gpc.gaps := by
      rw [whole]
    have fewer : t.gpc.gaps.Sublist s.gpc.gaps := by
      rw [gaps]
      split
      · exact List.filter_sublist
      · exact .refl _
    have few := autoCount_le_of_sublist fewer
    exact ⟨count,
      { left := left
        progress := rfl
        lif := ⟨_, ofReset_levelOffers s g _ _ _, congrArg State.lif whole⟩
        calls := by rw [whole]
        circuits := by rw [whole]
        time := by rw [whole]
        interval := by rw [whole]
        canon := canon'
        fewer := fewer
        manual := by
          rw [gaps]
          split
          · exact manualGaps_gapsAfterFall s g
          · rfl
        purged := fun hp => nomatch List.mem_singleton.mp hp
        counted := by
          show count + _ ≤ _
          omega
        exactly := fun calm => by
          have silent : ¬ grp.fallReported (grp.restarted 0 0) = true := fun falls =>
            calm g (List.mem_singleton_self _) grp held ((fallReported_restarted grp 0 0).mp falls)
          rw [if_neg silent] at gaps
          rw [gaps, Nat.sub_self, Nat.add_zero, or_self] at counts
          rw [gaps]
          exact congrArg (· + autoCount s.gpc.gaps) counts
        reset := fun h hh => by
          cases List.mem_singleton.mp hh
          rw [held]
          exact here
        waiting := fun h hh => by
          rw [elsewhere h fun same => once (by rw [← same]; exact hh)]
        other := fun h hh => elsewhere h fun same => hh (by rw [left, same]; exact List.mem_cons_self) }⟩

end Fell

/-- The effects of a RESTART between the freeing of the calls and its advisory, each group once (R56, R125, R180). -/
theorem fell_runEffects {es rest : List RestartEffect} {s : State} {v : Serving} (serving : s.lif.serving = some v)
    (canon : Canonical s) (left : v.left = es ++ rest) (once : v.left.Nodup)
    (middle : ∀ e ∈ es, e = .purgeGaps ∨ ∃ g, e = .resetGroup g) :
    ∃ w, Fell es v w s (State.runEffects es.length s) ∧ w.left = rest := by
  induction es generalizing s v with
  | nil => exact ⟨v, .refl serving canon, left⟩
  | cons e es ih =>
    have once' := once
    rw [left, List.cons_append, List.nodup_cons] at once'
    obtain ⟨u, one, behind⟩ : ∃ u, Fell [e] v u s (s.takeEffect v e (es ++ rest)) ∧ u.left = es ++ rest := by
      rcases middle e List.mem_cons_self with rfl | ⟨g, rfl⟩
      · exact ⟨_, .purge left canon, rfl⟩
      · obtain ⟨count, one⟩ := Fell.resetGroup left once'.1 canon
        exact ⟨_, one, rfl⟩
    obtain ⟨w, more, done⟩ := ih one.serving one.canon behind (by rw [behind]; exact once'.2) fun f hf =>
      middle f (List.mem_cons_of_mem _ hf)
    rw [List.length_cons, State.runEffects_succ, State.nextEffect_of_left serving (by exact left)]
    exact ⟨w, one.trans more once, done⟩

/-! ### A whole RESTART -/

theorem busyCount_freeCalls (s : State) (g : Nat) : s.freeCalls.busyCount g = 0 := by
  rw [State.busyCount, State.countCircuits, List.length_eq_zero_iff, List.filter_eq_nil_iff]
  intro e he
  have freed : s.freeCalls.tgm.circuits = s.tgm.circuits.map fun e => (e.1, e.2.freed) := Table.mapValues_eq_map _ _
  rw [freed] at he
  obtain ⟨d, -, rfl⟩ := List.mem_map.mp he
  rw [Bool.and_eq_true]
  rintro ⟨-, busy⟩
  cases stands : d.2.freed.state with
  | busy tag => exact freed_not_busy d.2 tag stands
  | _ => rw [stands] at busy; cases busy

theorem ofReset_addAdvisory {l : Lif} (h : ∀ b ∈ l.advisories, b.ofReset) {a : Advisory} (ha : a.ofReset) :
    ∀ b ∈ (l.addAdvisory a).advisories, b.ofReset := by
  intro b hb
  rw [Lif.addAdvisory] at hb
  split at hb
  · rcases List.mem_append.mp hb with old | new
    · exact h b old
    · rw [List.mem_singleton.mp new]; exact ha
  · exact h b hb

theorem ofReset_offer {l : Lif} (h : ∀ b ∈ l.advisories, b.ofReset) {a : Advisory} (ha : a.ofReset) :
    ∀ b ∈ (l.offer a).advisories, b.ofReset := by
  rw [Lif.offer]
  split
  · exact h
  · rcases ha with ⟨g, level, rfl⟩ | ⟨q, g, rfl⟩
    · rw [Lif.enqueue]
      split
      · intro b hb
        obtain ⟨c, hc, rfl⟩ := List.mem_map.mp hb
        split
        · exact .inl ⟨g, level, rfl⟩
        · exact h c hc
      · exact ofReset_addAdvisory h (.inl ⟨g, level, rfl⟩)
    · exact ofReset_addAdvisory h (.inr ⟨q, g, rfl⟩)

theorem ofReset_offers {as : List Advisory} (has : ∀ a ∈ as, a.ofReset) {l : Lif} (h : ∀ b ∈ l.advisories, b.ofReset) :
    ∀ b ∈ (as.foldl Lif.offer l).advisories, b.ofReset := by
  induction as generalizing l with
  | nil => exact h
  | cons a as ih =>
    exact ih (fun b hb => has b (List.mem_cons_of_mem _ hb)) (ofReset_offer h (has a List.mem_cons_self))

/-- RESTARTED stands last in the queue, in the newest's place when the queue is full (R174). -/
theorem offer_restarted {l : Lif} (free : l.linkReset = none) (calls gaps : Nat) :
    ∃ older, (l.offer (.restarted calls gaps)).advisories = older ++ [.restarted calls gaps] ∧
      older.Sublist l.advisories := by
  rw [offer_of_free free, Lif.enqueue]
  split
  · exact ⟨_, rfl, .refl _⟩
  · exact ⟨_, rfl, List.dropLast_sublist _⟩

/-- The effects of a RESTART of this state between the first and the last, with the AUTO gaps removed at p. -/
def restartMiddle (s : State) (p : Nat) : List RestartEffect :=
  (s.tgm.groups.keys.take p).map .resetGroup ++ .purgeGaps :: (s.tgm.groups.keys.drop p).map .resetGroup

/-- The RESTART in service once the calls are freed. -/
def servingFreed (s : State) (number : Byte) (p : Nat) : Serving :=
  { number := number, calls := s.ctb.length, gaps := 0, elapsed := 0, left := restartMiddle s p ++ [.announce] }

theorem length_restartMiddle (s : State) (p : Nat) : (restartMiddle s p).length = s.tgm.groups.length + 1 := by
  have keys : s.tgm.groups.keys.length = s.tgm.groups.length := List.length_map _
  simp only [restartMiddle, List.length_append, List.length_cons, List.length_map, List.length_take, List.length_drop, keys]
  omega

theorem resetGroup_mem_restartMiddle (s : State) (p g : Nat) :
    .resetGroup g ∈ restartMiddle s p ↔ g ∈ s.tgm.groups.keys := by
  have inj : ∀ ks : List Nat, RestartEffect.resetGroup g ∈ ks.map .resetGroup ↔ g ∈ ks := fun ks => by
    rw [List.mem_map]
    exact ⟨fun ⟨h, there, same⟩ => RestartEffect.resetGroup.inj same ▸ there, fun there => ⟨g, there, rfl⟩⟩
  have differ : ¬ RestartEffect.resetGroup g = .purgeGaps := nofun
  rw [restartMiddle, List.mem_append, List.mem_cons, inj, inj, or_iff_right differ, ← List.mem_append, List.take_append_drop]

theorem middle_of_mem_restartMiddle {s : State} {p : Nat} {e : RestartEffect} (h : e ∈ restartMiddle s p) :
    e = .purgeGaps ∨ ∃ g, e = .resetGroup g := by
  rw [restartMiddle, List.mem_append, List.mem_cons, List.mem_map, List.mem_map] at h
  rcases h with ⟨g, -, rfl⟩ | rfl | ⟨g, -, rfl⟩
  · exact .inr ⟨g, rfl⟩
  · exact .inl rfl
  · exact .inr ⟨g, rfl⟩

/-- Each group is reset once. -/
theorem nodup_restartMiddle {s : State} (wf : s.tgm.groups.wf = true) (p : Nat) :
    (restartMiddle s p ++ [RestartEffect.announce]).Nodup := by
  have keys : s.tgm.groups.keys.Nodup := List.pairwise_map.mpr (keys_distinct wf)
  have resets : (s.tgm.groups.keys.map RestartEffect.resetGroup).Nodup :=
    List.pairwise_map.mpr (keys.imp fun differ same => differ (RestartEffect.resetGroup.inj same))
  rw [restartMiddle, List.append_assoc, List.cons_append, List.perm_middle.nodup_iff, ← List.append_assoc, ← List.map_append,
    List.take_append_drop, List.nodup_cons, List.nodup_append]
  refine ⟨?_, resets, by simp, ?_⟩
  · simp
  · intro e he f hf same
    obtain ⟨g, -, rfl⟩ := List.mem_map.mp he
    rw [List.mem_singleton.mp hf] at same
    cases same

/-- A RESTART with nothing between its effects: the calls are freed, the effects between fall, and RESTARTED is offered. -/
theorem runEffects_restartBegun {s : State} (canon : Canonical s) (number : Byte) (p : Nat) : ∃ w u,
    Fell (restartMiddle s p) (servingFreed s number p) w
      ((restartBegun s number p).freeCalls.withServing (servingFreed s number p)) u ∧ w.left = [.announce] ∧
    State.runEffects (s.tgm.groups.length + 3) (restartBegun s number p) =
      (u.withServing { w with left := [] }).offer (.restarted w.calls w.gaps) := by
  have ⟨_, _, groups, _⟩ := canon
  obtain ⟨w, fell, left⟩ := fell_runEffects (es := restartMiddle s p) (rest := [.announce])
    (s := (restartBegun s number p).freeCalls.withServing (servingFreed s number p)) rfl
    (canonical_freeCalls (s := restartBegun s number p) canon) rfl (nodup_restartMiddle groups p)
    fun e => middle_of_mem_restartMiddle
  refine ⟨w, _, fell, left, ?_⟩
  have first : (restartBegun s number p).nextEffect =
      (restartBegun s number p).freeCalls.withServing (servingFreed s number p) := by
    rw [State.nextEffect_of_left (s := restartBegun s number p) rfl rfl, State.takeEffect, servingFreed, restartMiddle,
      List.append_assoc, List.cons_append]
    rfl
  calc State.runEffects (s.tgm.groups.length + 3) (restartBegun s number p)
      = State.runEffects (s.tgm.groups.length + 1 + 1) (restartBegun s number p).nextEffect := rfl
    _ = (State.runEffects (restartMiddle s p).length (restartBegun s number p).nextEffect).nextEffect := by
      rw [State.runEffects_add, ← length_restartMiddle s p]; rfl
    _ = _ := by
      rw [first, State.nextEffect_of_left fell.serving left, State.takeEffect]

/-- What a group is when a RESTART is complete: its circuits recounted, its strain state set afresh (R18, R38, R56). -/
theorem group_of_restart {s : State} {number : Byte} {p : Nat} {w : Serving} {u : State}
    (fell : Fell (restartMiddle s p) (servingFreed s number p) w
      ((restartBegun s number p).freeCalls.withServing (servingFreed s number p)) u) (g : Nat) :
    u.group? g = (s.group? g).map fun grp => (grp.recounted (u.idleCircuitCount g)).restarted 0 s.tmb.now := by
  have idle : u.idleCircuitCount g = (restartBegun s number p).freeCalls.idleCircuitCount g := by
    rw [State.idleCircuitCount, State.countCircuits, fell.circuits]; rfl
  have freed : ((restartBegun s number p).freeCalls.withServing (servingFreed s number p)).group? g =
      (s.group? g).map fun grp => grp.recounted (u.idleCircuitCount g) := by
    rw [idle]; exact group_freeCalls (restartBegun s number p) g
  have busy : ((restartBegun s number p).freeCalls.withServing (servingFreed s number p)).busyCount g = 0 :=
    busyCount_freeCalls (restartBegun s number p) g
  by_cases configured : g ∈ s.tgm.groups.keys
  · rw [fell.reset g ((resetGroup_mem_restartMiddle s p g).mpr configured), freed, Option.map_map, busy]
    rfl
  · have missing : s.group? g = none := by
      rw [← Option.not_isSome_iff_eq_none]
      intro held
      obtain ⟨grp, held⟩ := Option.isSome_iff_exists.mp held
      exact configured (List.mem_map.mpr ⟨_, Table.mem_of_get? _ held, rfl⟩)
    have away : .resetGroup g ∉ (servingFreed s number p).left := fun there =>
      (List.mem_append.mp there).elim (fun among => configured ((resetGroup_mem_restartMiddle s p g).mp among)) (by simp)
    rw [fell.other g away, freed, missing]
    rfl

/-- The AUTO gaps are all gone, and counted but for those that a fall report lifted uncounted (R125, R180). -/
theorem gaps_of_restart {s : State} {number : Byte} {p : Nat} {w : Serving} {u : State}
    (fell : Fell (restartMiddle s p) (servingFreed s number p) w
      ((restartBegun s number p).freeCalls.withServing (servingFreed s number p)) u) :
    u.gpc.gaps = manualGaps s.gpc.gaps ∧ w.gaps ≤ autoCount s.gpc.gaps ∧
      ((∀ e ∈ u.tgm.groups, ∀ grp, s.group? e.1 = some grp →
          ¬ (e.2.level < grp.level ∧ e.2.level ≤ 1 ∧ grp.service = .inService)) → w.gaps = autoCount s.gpc.gaps) := by
  have manual := fell.purged (List.mem_append_right _ List.mem_cons_self)
  have counted := fell.counted
  have exactly := fell.exactly
  rw [autoCount_eq_zero manual] at counted exactly
  refine ⟨(manualGaps_eq_self manual).symm.trans fell.manual, Nat.le_trans counted (Nat.le_of_eq (Nat.zero_add _)), fun calm => ?_⟩
  refine (exactly fun g hg old stood falls => ?_).trans (Nat.zero_add _)
  have after := fell.reset g hg
  have stood' : ((s.group? g).map fun grp => grp.recounted ((restartBegun s number p).freeCalls.idleCircuitCount g)) =
      some old := (group_freeCalls (restartBegun s number p) g).symm.trans stood
  obtain ⟨grp, held, rfl⟩ := Option.map_eq_some_iff.mp stood'
  rw [stood, Option.map_some] at after
  exact calm _ (Table.mem_of_get? _ after) grp held falls

/-- Settles O15: an effect each, the completion, and the invariant of the effects between the freeing and the advisory, carried over
them all. -/
theorem restartActsAndCompletes : Obligations.RestartActsAndCompletes := by
  unfold Obligations.RestartActsAndCompletes
  refine ⟨fun s number body takes => ?taken, fun s v number body serving => ⟨fun same => ?goesOn, fun other => ?waits⟩,
    fun s v left serving => ⟨State.nextEffect_of_done serving, fun stands => ?freeCalls, fun g stands => ⟨fun missing => ?missing,
      fun grp level reported held levelEq reportedIff canon => ?resetGroup⟩, fun stands => ?purgeGaps, fun stands => ?announce⟩,
    fun s v serving => exec_restartCompletion_of_serving serving, fun s t number p canon free run => ?whole⟩
  case taken =>
    refine ⟨_, s.popRequest.purgePoint, _, if_pos (takes_of_takes takes), Nat.le_of_lt_succ (Nat.mod_lt _ (Nat.succ_pos _)), ?_,
      goesOn_eq _⟩
    refine Nat.le_trans (Nat.le_of_lt_succ (Nat.mod_lt _ (Nat.succ_pos _))) (Nat.le_of_eq ?_)
    rw [effectsLeft_of_serving (s := s.popRequest.restartTaken number) rfl]
    exact length_restartPlan s.popRequest
  case goesOn =>
    have waits : s.lif.takes { kind := 0x33, number := number, body := body } = false := takes_of_serving serving _
    refine ⟨s.goesOn, _, ?_, ?_, goesOn_eq s⟩
    · have dispatch : exec (.restart number body) s = execRestart number body s := rfl
      rw [dispatch, execRestart, waits, if_neg Bool.false_ne_true, servesRestart_of_serving serving, decide_eq_true same,
        if_pos rfl]
    · rw [← effectsLeft_of_serving serving]
      exact Nat.le_of_lt_succ (Nat.mod_lt _ (Nat.succ_pos _))
  case waits =>
    have waits : s.lif.takes { kind := 0x33, number := number, body := body } = false := takes_of_serving serving _
    have dispatch : exec (.restart number body) s = execRestart number body s := rfl
    rw [dispatch, execRestart, waits, if_neg Bool.false_ne_true, servesRestart_of_serving serving, decide_eq_false other,
      if_neg Bool.false_ne_true]
  case freeCalls =>
    rw [State.nextEffect_of_left serving stands]
    exact takeEffect_freeCalls s v left
  case missing =>
    rw [State.nextEffect_of_left serving stands]
    exact takeEffect_resetGroup_of_none missing v left
  case resetGroup =>
    subst levelEq
    rw [State.nextEffect_of_left serving stands]
    exact takeEffect_resetGroup_of_some held canon v left reported reportedIff
  case purgeGaps =>
    rw [State.nextEffect_of_left serving stands]
    exact takeEffect_purgeGaps s v left
  case announce =>
    rw [State.nextEffect_of_left serving stands]
    rfl
  case whole =>
    obtain ⟨w, u, fell, left, ends⟩ := runEffects_restartBegun canon number p
    obtain ⟨gaps, atMost, exactly⟩ := gaps_of_restart fell
    obtain ⟨as, ofReset, lif⟩ := fell.lif
    have progress : w = { servingFreed s number p with gaps := w.gaps, left := w.left } := fell.progress
    have calls : w.calls = s.ctb.length := by rw [progress]; rfl
    obtain ⟨rsl, chu, tmb, pending, -⟩ := State.runEffects_keeps (s.tgm.groups.length + 3) (restartBegun s number p)
    rw [ends] at run
    rw [ends] at rsl chu tmb pending
    subst run
    have queue := ofReset_offers ofReset
      (l := ((restartBegun s number p).freeCalls.withServing (servingFreed s number p)).lif) nofun
    obtain ⟨older, newest, among⟩ := offer_restarted (l := (u.withServing { w with left := [] }).lif)
      (by rw [State.withServing_lif, lif, foldl_offer_eq]; exact free) w.calls w.gaps
    rw [State.withServing_lif, lif] at among
    have same : (u.withServing { w with left := [] }).offer (.restarted w.calls w.gaps) = { u with
        lif := (u.withServing { w with left := [] }).lif.offer (.restarted w.calls w.gaps) } := rfl
    refine ⟨w.gaps, older, rsl, chu, tmb, fell.calls, pending, ?gpc, ?requests, ?replies, ?serving, ?advisories,
      fun a ha => queue a (among.mem ha), atMost, exactly, fun i => ?circuits, fun g => group_of_restart fell g⟩
    case gpc =>
      exact (congrArg (Gpc.mk · u.gpc.autoInterval) gaps).trans (congrArg (Gpc.mk (manualGaps s.gpc.gaps)) fell.interval)
    case requests =>
      rw [same, Lif.offer_eq, State.withServing_lif, lif, foldl_offer_eq]
      rfl
    case replies =>
      rw [same, Lif.offer_eq, State.withServing_lif, lif, foldl_offer_eq]
      rfl
    case serving =>
      rw [same, Lif.offer_eq, State.withServing_lif, progress]
      rfl
    case advisories =>
      rw [← calls]
      exact newest
    case circuits =>
      have freed : u.tgm.circuits = (restartBegun s number p).freeCalls.tgm.circuits := fell.circuits
      simp only [← freed_eq]
      exact (congrArg (Table.get? · i) freed).trans (circuit_freeCalls (restartBegun s number p) i)

end Sys2Proof.Machine
end
